-- ==== Sys2Proof/Word.lean ====
section
/-! DEFINITION. The words of the tow bus: bytes, 16-bit sequence numbers and 5-bit station numbers. -/

namespace Sys2Proof

/-- One payload byte of a frame (spec/12, R205). -/
abbrev Byte := BitVec 8

/-- A station number as the straps and the frame header carry it, 0..31 (spec/10, R174; spec/11, R194). -/
abbrev Station := BitVec 5

/-- A 16-bit sequence quantity: a command epoch or a fuel leg number (spec/00, section 4.1). -/
abbrev Seq16 := BitVec 16

/-- The console's reserved station number (spec/00, section 1.2). -/
def consoleNumber : Station := 31

end Sys2Proof
end

