-- ==== Sys2Proof/Syntax.lean ====
section
/-! DEFINITION. The commands of the block: one constructor for each row of spec/opcode_table.json.
The table gives the rows no fields; the operands are what the row's rule says comes from outside (log 3). -/

namespace Sys2Proof

/-- Machinery fitted at a station, as the FIT straps and the fitted-mask byte name it (R194, R206). -/
structure Fitted where
  engine : Bool
  rudder : Bool
  winchA : Bool
  winchB : Bool
  helm   : Bool
  deriving DecidableEq, Repr

/-- One of the two coupling winches of a station (chapter 5). -/
inductive WinchId where
  | a | b
  deriving DecidableEq, Repr

/-- A side of the rudder, its coil and its end stop (chapter 4). -/
inductive RudderSide where
  | port | stbd
  deriving DecidableEq, Repr

/-- The pulse inputs (R149). -/
inductive PulseInput where
  | speed | supply | ret | fill
  deriving DecidableEq, Repr

/-- The three coupled pairs of DCH (R165). -/
inductive PairId where
  | rudder | winchA | winchB
  deriving DecidableEq, Repr

/-- The transmit slots and the REPLY queue of TBI (R178). -/
inductive TxSlot where
  | trip | capA | capB | command | demand | status | accountCurrent | accountClosed | reply
  deriving DecidableEq, Repr

/-- Levels of the discrete inputs that SSQ alone reads, at the instant of a scan completion (R160). -/
structure ScanPins where
  take    : Bool
  seize   : Bool
  modeSel : Bool
  tripIn  : Bool
  deriving DecidableEq, Repr

/-- The commands, in the order of the table. -/
inductive Instr where
  | powerOnReset (stn : Station) (fit : Fitted)
  | lineReset (stn : Station) (fit : Fitted)
  | frameReception (bits : List Bool)
  | trip
  | cap
  | commandRequest
  | commandGrant
  | commandDecline
  | commandSeize
  | clearTrip
  | ackAlarms
  | holdStation
  | releaseStation
  | demand
  | coupleMakeFast
  | coupleRelease
  | status
  | leg
  | account
  | commission
  | queryCounters
  | queryAlarms
  | queryPeer
  | queryLeg
  | queryConvoyFuel
  | queryCommission
  | reply
  | unknownClass
  | lineIdle
  | arbitrationLoss
  | readbackError
  | transmissionComplete
  | muteTimerExpiry
  | frameLifetimeExpiry (slot : TxSlot)
  | reportTimerExpiry
  | joinTimerExpiry
  | scanTrigger (pins : ScanPins)
  | pulseEdge (input : PulseInput)
  | conversionEnd (raw : BitVec 12) (pins : ScanPins)
  | interruptedConversionEnd
  | hcuScanCompletion
  | tsuScanCompletion
  | stuScanCompletion
  | cuScanCompletion
  | fauScanCompletion
  | tauScanCompletion
  | requestTimerExpiry
  | demandTimerExpiry
  | helmLossTimerExpiry
  | staleDeadline (n : Station)
  | lossDeadline (n : Station)
  | rundownTimeout
  | dwellExpiry
  | settleExpiry
  | jamTimerExpiry
  | steerStopActive
  | steerStopInactive
  | endStopActive (side : RudderSide)
  | endStopInactive (side : RudderSide)
  | takeupLimitExpiry (w : WinchId)
  | renderLimitExpiry (w : WinchId)
  | releaseTimeExpiry (w : WinchId)
  | brakeDwellExpiry (w : WinchId)
  | capRepeatExpiry (w : WinchId)
  | accountTimerExpiry
  | tripRepeatExpiry
  | periodBoundary
  | deadTimeExpiry (pair : PairId)
  | supplyFailure (updating : Bool) (vbak : Bool)
  deriving DecidableEq, Repr

end Sys2Proof
end

