-- ==== Sys2Proof/WellFormed.lean ====
section
/-! DEFINITION. Which commands can come from outside: the bounds the spec sets on their operands. -/

namespace Sys2Proof

/-- The most bits a frame can hold between start and end: 15 of header, 63 bytes, 16 of check word (R174). -/
def maxFrameBits : Nat := 15 + 8 * 63 + 16

/-- A peer record exists for station numbers 1..30 only (R1). -/
def isPeerNumber (n : Station) : Bool := decide (1 ≤ n.toNat ∧ n.toNat ≤ 30)

/-- Well-formedness of a command. -/
def Instr.wellFormed : Instr → Bool
  | .frameReception bits => decide (bits.length ≤ maxFrameBits)
  | .staleDeadline n | .lossDeadline n => isPeerNumber n
  | .powerOnReset _ _ | .lineReset _ _ | .trip | .cap | .commandRequest | .commandGrant | .commandDecline
  | .commandSeize | .clearTrip | .ackAlarms | .holdStation | .releaseStation | .demand | .coupleMakeFast
  | .coupleRelease | .status | .leg | .account | .commission | .queryCounters | .queryAlarms | .queryPeer
  | .queryLeg | .queryConvoyFuel | .queryCommission | .reply | .unknownClass | .lineIdle | .arbitrationLoss
  | .readbackError | .transmissionComplete | .muteTimerExpiry | .frameLifetimeExpiry _ | .reportTimerExpiry
  | .joinTimerExpiry | .scanTrigger _ | .pulseEdge _ | .conversionEnd _ _ | .interruptedConversionEnd
  | .hcuScanCompletion | .tsuScanCompletion | .stuScanCompletion | .cuScanCompletion | .fauScanCompletion
  | .tauScanCompletion | .requestTimerExpiry | .demandTimerExpiry | .helmLossTimerExpiry | .rundownTimeout
  | .dwellExpiry | .settleExpiry | .jamTimerExpiry | .steerStopActive | .steerStopInactive
  | .endStopActive _ | .endStopInactive _ | .takeupLimitExpiry _ | .renderLimitExpiry _
  | .releaseTimeExpiry _ | .brakeDwellExpiry _ | .capRepeatExpiry _ | .accountTimerExpiry
  | .tripRepeatExpiry | .periodBoundary | .deadTimeExpiry _ | .supplyFailure _ _ => true

end Sys2Proof
end

