-- ==== Sys2Proof/Decode.lean ====
section
/-! DEFINITION. The command a word of opcode-table bits spells. No row of spec/opcode_table.json gives bits,
so no word spells a command. -/

namespace Sys2Proof

/-- The host's entry point: none of the 69 rows has "fixed" bits or "fields". -/
def decodeTableWord (_nbits _w : Nat) : Option Instr := none

end Sys2Proof
end

