-- ==== Sys2Proof/Machine/Types.lean ====
section
/-! DEFINITION. The records that make up the state of the eleven blocks, as plain data.
A timer is the moment of its end on the own time base, in microseconds, or absent while it is stopped. -/

namespace Sys2Proof.Machine

open Sys2Proof

/-! ### Codes shared by frames and units (R206) -/

/-- Station state (R195, R196). -/
inductive StationState where
  | listen | joining | run | hold | safe
  deriving DecidableEq, Repr

/-- Winch state (R87). -/
inductive WinchState where
  | unfitted | standby | slack | takingUp | holding | overload | rendering | releasing | released | parted | blind
  deriving DecidableEq, Repr

/-- Engine condition (R42). -/
inductive EngineCond where
  | normal | lagging | fault
  deriving DecidableEq, Repr

/-- Helm state (R28). -/
inductive HelmState where
  | standby | requesting | inCommand
  deriving DecidableEq, Repr

/-- Reason of a DECLINE (R32). -/
inductive Decline where
  | staleEpoch | mismatch
  deriving DecidableEq, Repr

/-- Manoeuvring mode (R37). -/
inductive Mode where
  | opened | confined
  deriving DecidableEq, Repr

/-- State of a peer record (R2). -/
inductive PeerState where
  | absent | heard | live | stale | lost
  deriving DecidableEq, Repr

/-- Reason of a refusal (R187). -/
inductive Reason where
  | sender | state | locked | notWinch | notHelm | notEngine | field | notFitted | trip | mode | demand
  | causeActive | holder | range | order
  deriving DecidableEq, Repr

/-- A commissioning block (R199). -/
inductive Block where
  | p1 | p2 | p3 | p4 | p5
  deriving DecidableEq, Repr

/-- A line counter, in the order of R191. -/
inductive Counter where
  | received | ignored | refused | defaultRouted | crcError | lengthError | rxOverrun | txError | coalesced
  | lifetimeDrop | replyBusy | staleCommand | staleLeg | scanOverrun
  deriving DecidableEq, Repr

/-- The named alarms, in the order of R143. -/
inductive Alarm where
  | helmLost | leverFault | engineFault | engineLag | gearFault | steerStop | rudderJam | couplingBlind
  | takeupFailed | overload | parted | tankReserve | fuelDiscrepancy | accountSaturated | accountRestarted
  | sensorFault | tripLatched
  deriving DecidableEq, Repr

/-! ### SC (chapter 11) -/

/-- A linear calibration pair (R158). -/
structure CalPair where
  rawMin : Nat
  engMin : Int
  rawMax : Nat
  engMax : Int
  deriving DecidableEq, Repr

/-- A ramp pair in kW per control period (R51). -/
structure Ramp where
  up   : Nat
  down : Nat
  deriving DecidableEq, Repr

/-- Commissioning block P1 (R210). -/
structure P1 where
  nominal  : Nat
  ratedKw  : Nat
  side     : Int
  assist   : Nat
  openRamp : Ramp
  confRamp : Ramp
  idleDuty : Nat
  idleRpm  : Nat
  ratedRpm : Nat
  stallRpm : Nat
  shiftRpm : Nat
  lagBand  : Nat
  lagTime  : Nat
  teeth    : Nat
  period   : Nat
  deriving DecidableEq, Repr

/-- Behaviour of the rudder in HOLD (R83). -/
inductive RestPolicy where
  | holdPosition | centre
  deriving DecidableEq, Repr

/-- Commissioning block P2 (R210, R68). -/
structure P2 where
  thetaMax : Nat
  gain     : Nat
  sign     : Int
  gref     : Nat
  deadband : Nat
  kp       : Nat
  minDuty  : Nat
  maxDuty  : Nat
  jamBand  : Nat
  jamLimit : Nat
  rest     : RestPolicy
  deadTime : Nat
  rudder   : CalPair
  deriving DecidableEq, Repr

/-- Commissioning block P3 (R210, R88). -/
structure P3 where
  tParted     : Nat
  tLow        : Nat
  tSet        : Nat
  tHigh       : Nat
  tTrip       : Nat
  hysteresis  : Nat
  capFloor    : Nat
  takeupDuty  : Nat
  takeupLimit : Nat
  renderDuty  : Nat
  renderLimit : Nat
  releaseDuty : Nat
  releaseTime : Nat
  deadTime    : Nat
  tensionA    : CalPair
  tensionB    : CalPair
  deriving DecidableEq, Repr

/-- Commissioning block P4 (R210). `volumes` is the sounding table V0..V10. -/
structure P4 where
  kSupply     : Nat
  kReturn     : Nat
  kFill       : Nat
  depth       : Nat
  reserveL    : Nat
  tolFixedL   : Nat
  tolPermille : Nat
  level       : CalPair
  fuelTemp    : CalPair
  volumes     : List Nat
  deriving DecidableEq, Repr

/-- The calibration points of one lever (R26). -/
structure LeverCal where
  rawNeg     : Nat
  rawNeutral : Nat
  rawPos     : Nat
  det        : Nat
  deriving DecidableEq, Repr

/-- Commissioning block P5 (R210). -/
structure P5 where
  l1        : LeverCal
  l2        : LeverCal
  matchBand : Nat
  deriving DecidableEq, Repr

/-- One received part of a block not yet accepted (R195). -/
structure StagedPart where
  block : Block
  part  : Nat
  bytes : List Byte
  deriving DecidableEq, Repr

/-- SC's last commissioning refusal: the block, or none of P1..P5, and the reason (R195, R200). -/
structure CommRefusal where
  block  : Option Block
  reason : Reason
  deriving DecidableEq, Repr

/-- Station Control (R195). -/
structure Sc where
  station     : StationState
  number      : Station
  fitted      : Fitted
  p1          : Option P1
  p2          : Option P2
  p3          : Option P3
  p4          : Option P4
  p5          : Option P5
  lock        : Bool
  staging     : List StagedPart
  lastRefusal : Option CommRefusal
  joinTimer   : Option Nat
  reportTimer : Option Nat
  deriving DecidableEq, Repr

/-! ### TBI (chapter 10) -/

/-- A frame: class, sender and payload; the length field is the payload's length (R174). -/
structure Frame where
  cls     : BitVec 4
  sender  : Station
  payload : List Byte
  deriving DecidableEq, Repr

/-- A queued frame with the order of its queuing and the end of its lifetime (R177, R178). -/
structure TxFrame where
  frame   : Frame
  seq     : Nat
  lifeEnd : Nat
  deriving DecidableEq, Repr

/-- The transmit slots: at most one pending frame each (R178). -/
structure Slots where
  trip           : Option TxFrame
  capA           : Option TxFrame
  capB           : Option TxFrame
  command        : Option TxFrame
  demand         : Option TxFrame
  status         : Option TxFrame
  accountCurrent : Option TxFrame
  accountClosed  : Option TxFrame
  deriving DecidableEq, Repr

/-- What becomes of a frame in flight whose attempt fails (R179): it stays pending, or is discarded and counts
COALESCED, or is discarded and counts LIFETIME_DROP, or is discarded uncounted. -/
inductive Fate where
  | keep | coalesced | dropped | withdrawn
  deriving DecidableEq, Repr

/-- The frame in flight (R179). `lifeOver` says that the end of its lifetime has been taken. -/
structure InFlight where
  slot     : TxSlot
  tx       : TxFrame
  fate     : Fate
  lifeOver : Bool
  deriving DecidableEq, Repr

/-- Line state (R181, R182, R193). -/
inductive LineState where
  | active | mute | silenced
  deriving DecidableEq, Repr

/-- The line counters of R191, in their order. -/
structure Counters where
  received      : Nat
  ignored       : Nat
  refused       : Nat
  defaultRouted : Nat
  crcError      : Nat
  lengthError   : Nat
  rxOverrun     : Nat
  txError       : Nat
  coalesced     : Nat
  lifetimeDrop  : Nat
  replyBusy     : Nat
  staleCommand  : Nat
  staleLeg      : Nat
  scanOverrun   : Nat
  deriving DecidableEq, Repr

/-- The last-refusal record (R187). -/
structure LastRefusal where
  cls    : BitVec 4
  sender : Station
  reason : Reason
  deriving DecidableEq, Repr

/-- Tow Bus Interface (R192). -/
structure Tbi where
  line        : LineState
  aborts      : Nat
  muteTimer   : Option Nat
  slots       : Slots
  replies     : List TxFrame
  inflight    : Option InFlight
  nextSeq     : Nat
  rxQueue     : List Frame
  counters    : Counters
  lastRefusal : Option LastRefusal
  deriving DecidableEq, Repr

/-! ### PT (chapter 1) -/

/-- Core of a peer record from the first STATUS on (R2); times in µs. -/
structure PeerCore where
  fitted     : Fitted
  reported   : StationState
  period     : Nat
  alarms     : BitVec 17
  lastStatus : Nat
  deriving DecidableEq, Repr

/-- Commissioning part (R2, R5). -/
structure CommPart where
  accepted : BitVec 5
  block    : Option Block
  reason   : Option Reason
  deriving DecidableEq, Repr

/-- Engine part (R2, R208). -/
structure EnginePart where
  power : Nat
  sp    : Int
  cond  : EngineCond
  deriving DecidableEq, Repr

/-- Rudder part (R2, R208). -/
structure RudderPart where
  angle      : Int
  gain       : Nat
  responsive : Bool
  deriving DecidableEq, Repr

/-- Winch part (R2, R208). -/
structure WinchPart where
  state   : WinchState
  tension : Nat
  cap     : Option Nat
  deriving DecidableEq, Repr

/-- Helm part (R2, R208). -/
structure HelmPart where
  state   : HelmState
  epoch   : Seq16
  decline : Option Decline
  deriving DecidableEq, Repr

/-- Flags of a fuel leg (R110, R206). -/
structure LegFlags where
  saturated      : Bool
  gap            : Bool
  restarted      : Bool
  discrepancy    : Bool
  tempDefaulted  : Bool
  pulseOverrange : Bool
  deriving DecidableEq, Repr, Inhabited

/-- The fields of an ACCOUNT frame (R129, R207). `closed` is the kind CLOSED; `vNow` is V_close there. -/
structure Account where
  closed   : Bool
  leg      : Seq16
  consumed : Int
  fill     : Nat
  vOpen    : Option Nat
  vNow     : Option Nat
  d        : Option Int
  flags    : LegFlags
  deriving DecidableEq, Repr

/-- A peer record (R2). -/
structure PeerRecord where
  state         : PeerState
  core          : Option PeerCore
  staleAt       : Option Nat
  lossAt        : Option Nat
  commissioning : Option CommPart
  engine        : Option EnginePart
  rudder        : Option RudderPart
  winchA        : Option WinchPart
  winchB        : Option WinchPart
  helm          : Option HelmPart
  account       : Option Account
  deriving DecidableEq, Repr

/-! ### HCU (chapter 2) -/

/-- A debounced input: its state (absent while unset) and the sample of the scan before (R25). -/
structure Debounce where
  state : Option Bool
  prev  : Option Bool
  deriving DecidableEq, Repr

/-- The demand record (R37). -/
structure DemandRec where
  d     : Int
  r     : Int
  mode  : Mode
  time  : Option Nat
  valid : Bool
  deriving DecidableEq, Repr

/-- The values of a DEMAND: D, R and mode (R36). -/
structure DemandVals where
  d    : Int
  r    : Int
  mode : Mode
  deriving DecidableEq, Repr

/-- Helm Command Unit (R21, R25, R28, R37, R39). -/
structure Hcu where
  holder        : Option Station
  epoch         : Seq16
  vacant        : Bool
  helm          : HelmState
  lastDecline   : Option Decline
  requestTimer  : Option Nat
  demandTimer   : Option Nat
  take          : Debounce
  seize         : Debounce
  modeSel       : Debounce
  dOwn          : Int
  rOwn          : Int
  lastQueued    : Option DemandVals
  leverFault    : Bool
  demand        : DemandRec
  helmLossTimer : Option Nat
  helmLost      : Bool
  deriving DecidableEq, Repr

/-! ### TSU (chapter 3) -/

/-- An engaged gear (R42). -/
inductive Gear where
  | neutral | ahead | astern
  deriving DecidableEq, Repr

/-- Phase of a shift (R54). -/
inductive ShiftPhase where
  | rundown | dwell | engage
  deriving DecidableEq, Repr

/-- Gear state: a gear, or SHIFTING with its phase, origin and target gear (R54). -/
inductive GearState where
  | at (g : Gear)
  | shifting (phase : ShiftPhase) (origin target : Gear)
  deriving DecidableEq, Repr

/-- Thrust Share Unit (R42). -/
structure Tsu where
  derate     : Nat
  aOwn       : Nat
  sp         : Int
  target     : Int
  gear       : GearState
  shiftTimer : Option Nat
  cond       : EngineCond
  lag        : Nat
  inBand     : Nat
  stall      : Nat
  recovery   : Nat
  dutyReq    : Nat
  deriving DecidableEq, Repr

/-! ### SSQ (chapter 8) -/

/-- The analog channels, in their order of conversion (R149). -/
inductive Channel where
  | l1 | l2 | rudder | tensionA | tensionB | level | fuelTemp
  deriving DecidableEq, Repr

/-- Status of an analog channel (R156). -/
inductive ChannelStatus where
  | noData | good | suspect | fault
  deriving DecidableEq, Repr

/-- What the sample set carries for an analog channel (R157). -/
structure Reading where
  status : ChannelStatus
  value  : Option Int
  deriving DecidableEq, Repr

/-- SSQ's record of an analog channel (R150). -/
structure ChannelRec where
  status     : ChannelStatus
  value      : Option Int
  lastGood   : Option Int
  invalidRun : Nat
  validRun   : Nat
  deriving DecidableEq, Repr

/-- The seven channel records. -/
structure Channels where
  l1       : ChannelRec
  l2       : ChannelRec
  rudder   : ChannelRec
  tensionA : ChannelRec
  tensionB : ChannelRec
  level    : ChannelRec
  fuelTemp : ChannelRec
  deriving DecidableEq, Repr

/-- One count for each pulse input. -/
structure PulseCounts where
  speed  : Nat
  supply : Nat
  ret    : Nat
  fill   : Nat
  deriving DecidableEq, Repr

/-- Scan state (R150). `busy ch` is BUSY converting `ch`; `interrupted` is BUSY with a conversion that a line
reset interrupted (R154). -/
inductive ScanState where
  | stopped
  | waiting
  | busy (ch : Channel)
  | interrupted
  deriving DecidableEq, Repr

/-- The sample set of one scan (R153, R161). -/
structure SampleSet where
  l1        : Reading
  l2        : Reading
  rudder    : Reading
  tensionA  : Reading
  tensionB  : Reading
  level     : Reading
  fuelTemp  : Reading
  rpm       : Nat
  counts    : PulseCounts
  pins      : ScanPins
  steerStop : Bool
  portLim   : Bool
  stbdLim   : Bool
  deriving DecidableEq, Repr

/-- Sensing Sequencer (R150). -/
structure Ssq where
  scan         : ScanState
  controlTimer : Option Nat
  pulses       : PulseCounts
  heldClear    : Bool
  latched      : PulseCounts
  channels     : Channels
  sample       : Option SampleSet
  deriving DecidableEq, Repr

/-- Deliveries of the sample set not yet taken by their unit (R161). -/
structure Due where
  hcu : Bool
  tsu : Bool
  stu : Bool
  cu  : Bool
  fau : Bool
  tau : Bool
  deriving DecidableEq, Repr

/-! ### STU (chapter 4) -/

/-- Rudder state (R68). -/
inductive RudderState where
  | unfitted | resting | following | stopped | jammed | blind
  deriving DecidableEq, Repr

/-- A running jam watch: reference angle, drive side, end of the jam timer (R68, R76). -/
structure JamWatch where
  ref   : Int
  side  : RudderSide
  timer : Nat
  deriving DecidableEq, Repr

/-- Steering Unit (R68). -/
structure Stu where
  state      : RudderState
  angle      : Int
  measured   : Option Int
  reqPort    : Nat
  reqStbd    : Nat
  jam        : Option JamWatch
  responsive : Bool
  latest     : Option Reading
  deriving DecidableEq, Repr

/-! ### CU (chapter 5) -/

/-- Drive phase of an operation (R87). -/
inductive DrivePhase where
  | brakeDwell | driving
  deriving DecidableEq, Repr

/-- Brake request (R87). -/
inductive BrakeReq where
  | engage | release
  deriving DecidableEq, Repr

/-- A winch record (R87). -/
structure Winch where
  state         : WinchState
  phase         : Option DrivePhase
  runCount      : Nat
  opTimer       : Option Nat
  dwellTimer    : Option Nat
  renderInhibit : Bool
  lastTension   : Nat
  ownCap        : Option Nat
  lastCap       : Option Nat
  capTimer      : Option Nat
  brakeReq      : BrakeReq
  haul          : Nat
  pay           : Nat
  latest        : Option Reading
  deriving DecidableEq, Repr

/-- Coupling Unit (R87). -/
structure Cu where
  a : Winch
  b : Winch
  deriving DecidableEq, Repr

/-! ### FAU (chapter 6) -/

/-- A closed-leg record (R126). -/
structure ClosedLeg where
  leg      : Seq16
  consumed : Int
  fill     : Nat
  vOpen    : Option Nat
  vClose   : Option Nat
  d        : Option Int
  flags    : LegFlags
  deriving DecidableEq, Repr

/-- The retained fields of R110: the open-leg record and the closed-leg queue, oldest first. -/
structure Retained where
  leg    : Seq16
  accC   : Int
  resC   : Int
  accF   : Nat
  resF   : Nat
  vOpen  : Option Nat
  d      : Option Int
  flags  : LegFlags
  closed : List ClosedLeg
  deriving DecidableEq, Repr, Inhabited

/-- Fuel Account Unit (R110). -/
structure Fau where
  kept         : Retained
  check        : BitVec 16
  ring         : List Nat
  level        : Option Nat
  vNow         : Option Nat
  recon        : Nat
  accountTimer : Option Nat
  deriving DecidableEq, Repr

/-! ### TAU (chapter 7) -/

/-- An own trip cause (R136). -/
inductive OwnCause where
  | tripIn
  | parted (w : WinchId)
  deriving DecidableEq, Repr

/-- The cause in a trip record (R136). -/
inductive TripCause where
  | parted | tripIn | unspecified
  deriving DecidableEq, Repr

/-- The trip record (R136). -/
structure TripRecord where
  cause  : TripCause
  origin : Station
  winch  : Option WinchId
  deriving DecidableEq, Repr

/-- The latched alarms, with the winches of the two per-winch alarms (R143). -/
structure Latched where
  engineFault      : Bool
  gearFault        : Bool
  steerStop        : Bool
  rudderJam        : Bool
  takeupFailedA    : Bool
  takeupFailedB    : Bool
  partedA          : Bool
  partedB          : Bool
  fuelDiscrepancy  : Bool
  accountSaturated : Bool
  accountRestarted : Bool
  deriving DecidableEq, Repr

/-- Trip and Alarm Unit (R136, R143). -/
structure Tau where
  latch       : Bool
  record      : Option TripRecord
  causes      : List OwnCause
  repeatTimer : Option Nat
  latched     : Latched
  deriving DecidableEq, Repr

/-! ### DCH (chapter 9) -/

/-- A side of a coupled pair: `one` is RUD_P, WA_H or WB_H; `two` is RUD_S, WA_P or WB_P (R165). -/
inductive Side where
  | one | two
  deriving DecidableEq, Repr

/-- A coupled pair: requested and applied duties, last active side, dead-time timer (R163). -/
structure Pair where
  req1 : Nat
  req2 : Nat
  app1 : Nat
  app2 : Nat
  last : Option Side
  dead : Option Nat
  deriving DecidableEq, Repr

/-- The GOV channel (R163). -/
structure Gov where
  req : Nat
  app : Nat
  deriving DecidableEq, Repr

/-- The PWM channels (R163): GOV, RUD_P and RUD_S, WA_H and WA_P, WB_H and WB_P. -/
inductive PwmChannel where
  | gov | rudPort | rudStbd | haulA | payA | haulB | payB
  deriving DecidableEq, Repr

/-- The quotients by an engine figure of P1 that can be asked for with that figure at 0: the expected speed (R61), the rpm
(R159). -/
inductive EngineRatio where
  | expected | rpm
  deriving DecidableEq, Repr

/-- A brake line and its pending engagement (R163, R169). -/
structure Brake where
  line    : Bool
  pending : Bool
  deriving DecidableEq, Repr

/-- Drive Channels (R163). `gearReq` neutral is NEITHER; `boundaryAt` is the next period boundary. -/
structure Dch where
  gov        : Gov
  rud        : Pair
  wa         : Pair
  wb         : Pair
  brakeA     : Brake
  brakeB     : Brake
  gearReq    : Gear
  lampReq    : Bool
  faultReq   : Bool
  restHold   : Bool
  boundaryAt : Nat
  deriving DecidableEq, Repr

/-- Levels of the inputs that act on DCH at once (R167, R168). -/
structure Pins where
  steerStop : Bool
  portLim   : Bool
  stbdLim   : Bool
  deriving DecidableEq, Repr

end Sys2Proof.Machine
end

