-- ==== Sys2Proof/Config.lean ====
section
/-! DEFINITION. Free values: what the spec leaves open while the machine goes on. None has a body, so no proof can
rest on a value of it. -/

namespace Sys2Proof.Config

open Sys2Proof.Machine

/-- The retention contents "taken as bytes" (R133, R205): the spec gives no layout of them (log 8). -/
opaque retentionBytes : Retained → List Byte

/-- The contents left by an update that a supply failure cut short, or by the loss of VBAK (R133; log 9). -/
opaque lostContents : Nat → Retained

/-- How the check word left then differs from that of the contents (R133; log 9). -/
opaque tornMask : Nat → BitVec 16

/-- Whether a TAKE edge is taken before a SEIZE edge of the same scan completion (R29, R30; log 11). -/
opaque takeBeforeSeize : Nat → Bool

/-- The leg bytes of a CONVOY_FUEL reply whose leg is absent (R131, R209; log 18). -/
opaque absentLeg : Nat → Seq16

/-- The field bytes of a CONVOY_FUEL sum that does not fit its 32 bits (R131, R209; log 34). -/
opaque wideSum : Int → BitVec 32

/-- A quotient of R61 or R159 by an engine figure of P1 that is 0: the P1 was accepted without ENGINE, where R200
checks neither rated_kW nor teeth, and the spec gives no result (log 37). -/
opaque perZero : EngineRatio → Int → Int

end Sys2Proof.Config
end

