-- ==== Sys2Proof/Machine/Operands.lean ====
section
/-! DEFINITION. The frames that commands carry: serial comparison, clamping, bits, bytes and check word (R205), codes
(R206), payload layouts (R207 to R209) and commissioning parts (R210), both read and written. -/

namespace Sys2Proof.Machine

open Sys2Proof

/-! ### Arithmetic conventions (spec/00, section 4.1) -/

/-- `a` succeeds `b` serially: (a - b) mod 65536 lies in 1..32767. -/
def succeeds (a b : Seq16) : Bool := decide (1 ≤ (a - b).toNat ∧ (a - b).toNat ≤ 32767)

/-- `a` precedes `b` serially: `b` succeeds `a`. -/
def precedes (a b : Seq16) : Bool := succeeds b a

/-- A signed value clamped to lo..hi. -/
def clampInt (lo hi v : Int) : Int := max lo (min hi v)

/-- An unsigned value clamped to lo..hi. -/
def clampNat (lo hi v : Nat) : Nat := max lo (min hi v)

/-- A division that truncates toward zero. -/
def quot (a b : Int) : Int := Int.tdiv a b

/-- A division by an engine figure of P1, which can be 0 in a P1 accepted without ENGINE (R200; log 37). -/
def perFigure (q : EngineRatio) (a : Int) (b : Nat) : Int := if b = 0 then Config.perZero q a else quot a b

/-- A range check. -/
def inRange (lo hi v : Int) : Bool := decide (lo ≤ v ∧ v ≤ hi)

/-- Milliseconds in the own time base, which counts microseconds (log 1). -/
def ms (n : Nat) : Nat := 1000 * n

/-! ### Bits, bytes and the check word (R205) -/

/-- The `w` low bits of `n`, most significant first; true is 1, recessive (R174). -/
def bitsOf (w n : Nat) : List Bool := (List.range w).map fun i => n.testBit (w - 1 - i)

/-- The number that bits spell, most significant first. -/
def natOfBits (bs : List Bool) : Nat := bs.foldl (fun n b => 2 * n + b.toNat) 0

/-- `k` bytes read from bits. -/
def bytesOfBits : Nat → List Bool → List Byte
  | 0, _ => []
  | k + 1, bs => BitVec.ofNat 8 (natOfBits (bs.take 8)) :: bytesOfBits k (bs.drop 8)

/-- The bits of bytes in line order. -/
def bitsOfBytes (p : List Byte) : List Bool := p.flatMap fun b => bitsOf 8 b.toNat

/-- One bit through the check-word register, polynomial x^16 + x^12 + x^5 + 1 (R205). -/
def crcBit (r : BitVec 16) (b : Bool) : BitVec 16 :=
  if r.msb ^^ b then (r <<< 1) ^^^ 0x1021#16 else r <<< 1

/-- The check word over bits, from a register of all ones, without final inversion (R205). -/
def crcBits (bs : List Bool) : BitVec 16 := bs.foldl crcBit 0xFFFF#16

/-- The header and payload bits of a frame (R205). -/
def frameBody (f : Frame) : List Bool :=
  bitsOf 4 f.cls.toNat ++ bitsOf 5 f.sender.toNat ++ bitsOf 6 f.payload.length ++ bitsOfBytes f.payload

/-- A frame on the line: header, payload, check word (R174, R205). -/
def frameBits (f : Frame) : List Bool := frameBody f ++ bitsOf 16 (crcBits (frameBody f)).toNat

/-- The check word of the retention contents, over their bytes (R133, R205). -/
def retentionCrc (r : Retained) : BitVec 16 := crcBits (bitsOfBytes (Config.retentionBytes r))

/-- An unsigned field of `n` bytes, most significant byte first. -/
def putU (n v : Nat) : List Byte := bytesOfBits n (bitsOf (8 * n) v)

/-- A signed field of `n` bytes, two's complement. -/
def putS (n : Nat) (v : Int) : List Byte := putU n (v % (2 ^ (8 * n) : Nat)).toNat

/-- The unsigned field of `n` bytes at offset `i` of a payload. -/
def getU (n i : Nat) (p : List Byte) : Nat := ((p.drop i).take n).foldl (fun v b => 256 * v + b.toNat) 0

/-- The signed field of `n` bytes at offset `i`. -/
def getS (n i : Nat) (p : List Byte) : Int :=
  let v := getU n i p
  if v < 2 ^ (8 * n - 1) then v else (v : Int) - (2 ^ (8 * n) : Nat)

/-- An optional unsigned field: all ones while absent (R205). -/
def putOptU (n : Nat) (v : Option Nat) : List Byte := putU n (v.getD (2 ^ (8 * n) - 1))

/-- An optional unsigned field read: all ones make it absent (R205). -/
def getOptU (n i : Nat) (p : List Byte) : Option Nat :=
  let v := getU n i p
  if v = 2 ^ (8 * n) - 1 then none else some v

/-- An optional signed field: the most negative value while absent (R205). -/
def putOptS (n : Nat) (v : Option Int) : List Byte := putS n (v.getD (-(2 ^ (8 * n - 1) : Nat)))

/-- An optional signed field read. -/
def getOptS (n i : Nat) (p : List Byte) : Option Int :=
  let v := getS n i p
  if v = -(2 ^ (8 * n - 1) : Nat) then none else some v

/-! ### Codes (R206) -/

/-- A station number 1..30, which a peer record or a steering position can have (R1, R194). -/
def validStation (n : Station) : Bool := decide (1 ≤ n.toNat ∧ n.toNat ≤ 30)

/-- Station state codes. SAFE has none: no frame is built there. -/
def stationCode : StationState → Nat
  | .listen => 0 | .joining => 1 | .run => 2 | .hold => 3 | .safe => 4

/-- The station state a code names. -/
def stationOf : Nat → Option StationState
  | 0 => some .listen | 1 => some .joining | 2 => some .run | 3 => some .hold | _ => none

/-- Fitted mask, bit 0 up: ENGINE, RUDDER, WINCH_A, WINCH_B, HELM. -/
def fittedCode (f : Fitted) : Nat :=
  f.engine.toNat + 2 * f.rudder.toNat + 4 * f.winchA.toNat + 8 * f.winchB.toNat + 16 * f.helm.toNat

/-- The fitted mask of a byte; bits 5..7 are not read. -/
def fittedOf (v : Nat) : Fitted :=
  ⟨v.testBit 0, v.testBit 1, v.testBit 2, v.testBit 3, v.testBit 4⟩

/-- Winch codes. -/
def winchCode : WinchId → Nat
  | .a => 1 | .b => 2

/-- The winch a code names. -/
def winchOf : Nat → Option WinchId
  | 1 => some .a | 2 => some .b | _ => none

/-- Winch state codes. -/
def winchStateCode : WinchState → Nat
  | .unfitted => 0 | .standby => 1 | .slack => 2 | .takingUp => 3 | .holding => 4 | .overload => 5
  | .rendering => 6 | .releasing => 7 | .released => 8 | .parted => 9 | .blind => 10

/-- The winch state a code names. -/
def winchStateOf : Nat → Option WinchState
  | 0 => some .unfitted | 1 => some .standby | 2 => some .slack | 3 => some .takingUp | 4 => some .holding
  | 5 => some .overload | 6 => some .rendering | 7 => some .releasing | 8 => some .released | 9 => some .parted
  | 10 => some .blind | _ => none

/-- Engine condition codes. -/
def condCode : EngineCond → Nat
  | .normal => 0 | .lagging => 1 | .fault => 2

/-- The engine condition a code names. -/
def condOf : Nat → Option EngineCond
  | 0 => some .normal | 1 => some .lagging | 2 => some .fault | _ => none

/-- Helm state codes. -/
def helmCode : HelmState → Nat
  | .standby => 0 | .requesting => 1 | .inCommand => 2

/-- The helm state a code names. -/
def helmOf : Nat → Option HelmState
  | 0 => some .standby | 1 => some .requesting | 2 => some .inCommand | _ => none

/-- Decline reason codes, 0 none. -/
def declineCode : Option Decline → Nat
  | none => 0 | some .staleEpoch => 1 | some .mismatch => 2

/-- The decline reason a code names; the outer none is a code that names none of the values. -/
def declineOf : Nat → Option (Option Decline)
  | 0 => some none | 1 => some (some .staleEpoch) | 2 => some (some .mismatch) | _ => none

/-- Mode codes. -/
def modeCode : Mode → Nat
  | .opened => 1 | .confined => 2

/-- The mode of a DEMAND: a code that names neither is taken as CONFINED (R38). -/
def modeOf (v : Nat) : Mode := if v = 1 then .opened else .confined

/-- Cause codes in a TRIP frame and a trip record. -/
def causeCode : TripCause → Nat
  | .parted => 1 | .tripIn => 2 | .unspecified => 3

/-- The cause of a received TRIP: any other code is recorded as UNSPECIFIED (R140). -/
def causeOf : Nat → TripCause
  | 1 => .parted | 2 => .tripIn | _ => .unspecified

/-- Peer record state codes. -/
def peerStateCode : PeerState → Nat
  | .absent => 0 | .heard => 1 | .live => 2 | .stale => 3 | .lost => 4

/-- Refusal reason codes, 0 none. -/
def reasonCode : Option Reason → Nat
  | none => 0
  | some .sender => 1 | some .state => 2 | some .locked => 3 | some .notWinch => 4 | some .notHelm => 5
  | some .notEngine => 6 | some .field => 7 | some .notFitted => 8 | some .trip => 9 | some .mode => 10
  | some .demand => 11 | some .causeActive => 12 | some .holder => 13 | some .range => 14 | some .order => 15

/-- The refusal reason a code names; the outer none is a code that names none of the values. -/
def reasonOf : Nat → Option (Option Reason)
  | 0 => some none
  | 1 => some (some .sender) | 2 => some (some .state) | 3 => some (some .locked) | 4 => some (some .notWinch)
  | 5 => some (some .notHelm) | 6 => some (some .notEngine) | 7 => some (some .field)
  | 8 => some (some .notFitted) | 9 => some (some .trip) | 10 => some (some .mode) | 11 => some (some .demand)
  | 12 => some (some .causeActive) | 13 => some (some .holder) | 14 => some (some .range)
  | 15 => some (some .order) | _ => none

/-- Commissioning block codes, 0 none. -/
def blockCode : Option Block → Nat
  | none => 0 | some .p1 => 1 | some .p2 => 2 | some .p3 => 3 | some .p4 => 4 | some .p5 => 5

/-- The block a code names; the outer none is a code above 5. -/
def blockOf : Nat → Option (Option Block)
  | 0 => some none | 1 => some (some .p1) | 2 => some (some .p2) | 3 => some (some .p3) | 4 => some (some .p4)
  | 5 => some (some .p5) | _ => none

/-- Leg flags, bit 0 up (R206). Bits 6 and 7, which name no flag, are sent 0 (log 43). -/
def flagsCode (f : LegFlags) : Nat :=
  f.saturated.toNat + 2 * f.gap.toNat + 4 * f.restarted.toNat + 8 * f.discrepancy.toNat
    + 16 * f.tempDefaulted.toNat + 32 * f.pulseOverrange.toNat

/-- The leg flags of a byte (R206). Bits 6 and 7 are not read (log 43). -/
def flagsOf (v : Nat) : LegFlags :=
  ⟨v.testBit 0, v.testBit 1, v.testBit 2, v.testBit 3, v.testBit 4, v.testBit 5⟩

/-- An alarm's bit in an alarm mask (R206). -/
def alarmBit : Alarm → Nat
  | .helmLost => 0 | .leverFault => 1 | .engineFault => 2 | .engineLag => 3 | .gearFault => 4 | .steerStop => 5
  | .rudderJam => 6 | .couplingBlind => 7 | .takeupFailed => 8 | .overload => 9 | .parted => 10
  | .tankReserve => 11 | .fuelDiscrepancy => 12 | .accountSaturated => 13 | .accountRestarted => 14
  | .sensorFault => 15 | .tripLatched => 16

/-- Target ALL (R206). -/
def targetAll : Nat := 255

/-! ### Frame classes (R175) -/

/-- Class of a frame as a number, which is also its rank. -/
def Frame.rank (f : Frame) : Nat := f.cls.toNat

/-- Byte 0 of the payload: the kind of a COMMAND, the block of a COMMISSION, the station state of a STATUS. -/
def Frame.byte0 (f : Frame) : Nat := getU 1 0 f.payload

def clsTrip : BitVec 4 := 0
def clsCap : BitVec 4 := 1
def clsCommand : BitVec 4 := 2
def clsDemand : BitVec 4 := 3
def clsCouple : BitVec 4 := 4
def clsStatus : BitVec 4 := 5
def clsLeg : BitVec 4 := 6
def clsAccount : BitVec 4 := 7
def clsCommission : BitVec 4 := 8
def clsQuery : BitVec 4 := 9
def clsReply : BitVec 4 := 10

/-- Kinds of COMMAND (R207). -/
inductive Kind where
  | request | grant | decline | seize | clearTrip | ackAlarms | holdStation | releaseStation
  deriving DecidableEq, Repr

/-- The kind a byte names. -/
def kindOf : Nat → Option Kind
  | 1 => some .request | 2 => some .grant | 3 => some .decline | 4 => some .seize | 5 => some .clearTrip
  | 6 => some .ackAlarms | 7 => some .holdStation | 8 => some .releaseStation | _ => none

/-- Payload length of a COMMAND kind (R207). -/
def kindLength : Kind → Nat
  | .request => 7 | .grant => 4 | .decline => 3 | .seize => 3 | .clearTrip => 2 | .ackAlarms => 6
  | .holdStation => 2 | .releaseStation => 2

/-- Length of the parts that a fitted mask includes in a full STATUS (R208). -/
def partsLength (f : Fitted) : Nat :=
  5 * f.engine.toNat + 5 * f.rudder.toNat + 5 * f.winchA.toNat + 5 * f.winchB.toNat + 4 * f.helm.toNat

/-- Length of a commissioning part, if block and part name one (R210). -/
def partLength : Nat → Nat → Option Nat
  | 1, 1 => some 30 | 2, 1 => some 27 | 3, 1 => some 24 | 3, 2 => some 16 | 4, 1 => some 31 | 4, 2 => some 33
  | 5, 1 => some 18 | _, _ => none

/-- Whether a payload length is valid for its class (R205). -/
def lengthValid (cls : BitVec 4) (p : List Byte) : Bool :=
  let n := p.length
  match cls.toNat with
  | 0 => n == 2
  | 1 => n == 5
  | 2 => match kindOf (getU 1 0 p) with
    | some k => n == kindLength k
    | none => decide (1 ≤ n ∧ n ≤ 7)
  | 3 => n == 7
  | 4 => n == 3
  | 5 => if getU 1 0 p = 0 then n == 5 else n == 7 + partsLength (fittedOf (getU 1 1 p))
  | 6 => n == 2
  | 7 => n == 24
  | 8 => match partLength (getU 1 0 p) (getU 1 1 p) with
    | some k => n == 2 + k
    | none => decide (2 ≤ n ∧ n ≤ 40)
  | 9 => n == 4
  | 10 => decide (5 ≤ n ∧ n ≤ 40)
  | _ => decide (n ≤ 40)

/-- Outcome of the line checks of R183. -/
inductive Checked where
  | crcError
  | lengthError
  | passes (f : Frame)
  deriving DecidableEq, Repr

/-- The line checks of a received frame (R183). Bits beyond the check word are not read (log 4). -/
def lineCheck (bits : List Bool) : Checked :=
  let len := natOfBits ((bits.drop 9).take 6)
  let bodyLen := 15 + 8 * len
  let body := bits.take bodyLen
  if bits.length < bodyLen + 16 then .crcError
  else if BitVec.ofNat 16 (natOfBits ((bits.drop bodyLen).take 16)) ≠ crcBits body then .crcError
  else
    let f : Frame := ⟨BitVec.ofNat 4 (natOfBits (bits.take 4)), BitVec.ofNat 5 (natOfBits ((bits.drop 4).take 5)),
      bytesOfBits len (bits.drop 15)⟩
    if lengthValid f.cls f.payload then .passes f else .lengthError

/-! ### STATUS (R208) -/

/-- The full STATUS as its fields. -/
structure FullStatus where
  reported : StationState
  fitted   : Fitted
  period   : Nat
  alarms   : BitVec 17
  engine   : Option EnginePart
  rudder   : Option RudderPart
  winchA   : Option WinchPart
  winchB   : Option WinchPart
  helm     : Option HelmPart
  deriving DecidableEq, Repr

/-- A STATUS payload as its fields. -/
inductive StatusReport where
  | short (fitted : Fitted) (comm : CommPart)
  | full (r : FullStatus)
  deriving DecidableEq, Repr

/-- Bytes of an engine part. -/
def putEngine (e : EnginePart) : List Byte := putU 2 e.power ++ putS 2 e.sp ++ putU 1 (condCode e.cond)

/-- Bytes of a rudder part. -/
def putRudder (r : RudderPart) : List Byte := putS 2 r.angle ++ putU 2 r.gain ++ putU 1 r.responsive.toNat

/-- Bytes of a winch part; "none" is 65535 (R205). -/
def putWinch (w : WinchPart) : List Byte :=
  putU 1 (winchStateCode w.state) ++ putU 2 w.tension ++ putOptU 2 w.cap

/-- Bytes of a helm part. -/
def putHelm (h : HelmPart) : List Byte :=
  putU 1 (helmCode h.state) ++ putU 2 h.epoch.toNat ++ putU 1 (declineCode h.decline)

/-- Bytes of an optional part: none while it is absent. -/
def putPart {α : Type} (put : α → List Byte) : Option α → List Byte
  | none => []
  | some x => put x

/-- Payload of a short STATUS. -/
def putShortStatus (f : Fitted) (c : CommPart) : List Byte :=
  putU 1 (stationCode .listen) ++ putU 1 (fittedCode f) ++ putU 1 c.accepted.toNat ++ putU 1 (blockCode c.block)
    ++ putU 1 (reasonCode c.reason)

/-- Payload of a full STATUS. -/
def putFullStatus (r : FullStatus) : List Byte :=
  putU 1 (stationCode r.reported) ++ putU 1 (fittedCode r.fitted) ++ putU 1 r.period ++ putU 4 r.alarms.toNat
    ++ putPart putEngine r.engine ++ putPart putRudder r.rudder ++ putPart putWinch r.winchA
    ++ putPart putWinch r.winchB ++ putPart putHelm r.helm

/-- The bytes of each part of a full STATUS, by its fitted mask. -/
structure StatusParts where
  engine : Option (List Byte)
  rudder : Option (List Byte)
  winchA : Option (List Byte)
  winchB : Option (List Byte)
  helm   : Option (List Byte)

/-- The next `n` bytes when a part is included, and what follows. -/
def cutPart (included : Bool) (n : Nat) (p : List Byte) : Option (List Byte) × List Byte :=
  if included then (some (p.take n), p.drop n) else (none, p)

/-- The parts of a full STATUS payload. -/
def statusParts (p : List Byte) : StatusParts :=
  let f := fittedOf (getU 1 1 p)
  let e := cutPart f.engine 5 (p.drop 7)
  let r := cutPart f.rudder 5 e.2
  let a := cutPart f.winchA 5 r.2
  let b := cutPart f.winchB 5 a.2
  let h := cutPart f.helm 4 b.2
  ⟨e.1, r.1, a.1, b.1, h.1⟩

/-- A cap field clamped to 0..`limit`, 65535 read as "none" (R186). -/
def getCap (limit i : Nat) (p : List Byte) : Option Nat := (getOptU 2 i p).map (min limit)

/-- An engine part, clamped (R186, R2). -/
def getEngine (p : List Byte) : EnginePart :=
  ⟨min 8000 (getU 2 0 p), clampInt (-8000) 8000 (getS 2 2 p), (condOf (getU 1 4 p)).getD .normal⟩

/-- A rudder part, clamped (R186, R2). -/
def getRudder (p : List Byte) : RudderPart :=
  ⟨clampInt (-1800) 1800 (getS 2 0 p), min 1000 (getU 2 2 p), getU 1 4 p == 1⟩

/-- A winch part, clamped; `limit` is N, or 30000 while N is absent (R186, R2). -/
def getWinch (limit : Nat) (p : List Byte) : WinchPart :=
  ⟨(winchStateOf (getU 1 0 p)).getD .unfitted, min 4000 (getU 2 1 p), getCap limit 3 p⟩

/-- A helm part. -/
def getHelm (p : List Byte) : HelmPart :=
  ⟨(helmOf (getU 1 0 p)).getD .standby, BitVec.ofNat 16 (getU 2 1 p), (declineOf (getU 1 3 p)).getD none⟩

/-- The report an admitted STATUS carries (R208), its numeric fields clamped (R186). -/
def getStatus (limit : Nat) (p : List Byte) : StatusReport :=
  let f := fittedOf (getU 1 1 p)
  if getU 1 0 p = 0 then
    .short f ⟨BitVec.ofNat 5 (getU 1 2 p), (blockOf (getU 1 3 p)).getD none, (reasonOf (getU 1 4 p)).getD none⟩
  else
    let q := statusParts p
    .full ⟨(stationOf (getU 1 0 p)).getD .joining, f, clampNat 2 10 (getU 1 2 p), BitVec.ofNat 17 (getU 4 3 p),
      q.engine.map getEngine, q.rudder.map getRudder, q.winchA.map (getWinch limit), q.winchB.map (getWinch limit),
      q.helm.map getHelm⟩

/-- Whether a byte of a part, if the part is there, names a value. -/
def partNames (p : Option (List Byte)) (ok : List Byte → Bool) : Bool :=
  match p with
  | none => true
  | some b => ok b

/-- The enumerations of a STATUS name values (R186; log 16). -/
def statusFieldsOk (p : List Byte) : Bool :=
  if getU 1 0 p = 0 then
    (blockOf (getU 1 3 p)).isSome && (reasonOf (getU 1 4 p)).isSome
  else
    let q := statusParts p
    (stationOf (getU 1 0 p)).isSome
      && partNames q.engine (fun b => (condOf (getU 1 4 b)).isSome)
      && partNames q.rudder (fun b => decide (getU 1 4 b ≤ 1))
      && partNames q.winchA (fun b => (winchStateOf (getU 1 0 b)).isSome)
      && partNames q.winchB (fun b => (winchStateOf (getU 1 0 b)).isSome)
      && partNames q.helm (fun b => (helmOf (getU 1 0 b)).isSome && (declineOf (getU 1 3 b)).isSome)

/-! ### ACCOUNT (R207) -/

/-- Payload of an ACCOUNT. -/
def putAccount (a : Account) : List Byte :=
  putU 1 (if a.closed then 2 else 1) ++ putU 2 a.leg.toNat ++ putS 4 a.consumed ++ putU 4 a.fill
    ++ putOptU 4 a.vOpen ++ putOptU 4 a.vNow ++ putOptS 4 a.d ++ putU 1 (flagsCode a.flags)

/-- The fields of an ACCOUNT; chapter 12 gives them no range (log 17). -/
def getAccount (p : List Byte) : Account :=
  ⟨getU 1 0 p == 2, BitVec.ofNat 16 (getU 2 1 p), getS 4 3 p, getU 4 7 p, getOptU 4 11 p, getOptU 4 15 p,
    getOptS 4 19 p, flagsOf (getU 1 23 p)⟩

/-! ### Queries (R189, R207) -/

/-- Subjects of a QUERY. -/
inductive Subject where
  | counters | alarms | peer | leg | convoyFuel | commission
  deriving DecidableEq, Repr

/-- The subject a code names. -/
def subjectOf : Nat → Option Subject
  | 1 => some .counters | 2 => some .alarms | 3 => some .peer | 4 => some .leg | 5 => some .convoyFuel
  | 6 => some .commission | _ => none

/-! ### Enumerations of each class (R184 step 7, R186) -/

/-- Whether a frame's enumerations name values, where the owner has no rule of its own for one that does not. -/
def fieldsOk (f : Frame) : Bool :=
  let p := f.payload
  match f.cls.toNat with
  | 1 => (winchOf (getU 1 0 p)).isSome
  | 2 => if kindOf f.byte0 = some .decline then (declineOf (getU 1 2 p)).isSome else true
  | 4 => (winchOf (getU 1 1 p)).isSome && (getU 1 2 p == 1 || getU 1 2 p == 2)
  | 5 => statusFieldsOk p
  | 7 => getU 1 0 p == 1 || getU 1 0 p == 2
  | 9 => (subjectOf (getU 1 1 p)).isSome
  | _ => true

/-! ### Commissioning parts (R210) -/

/-- A calibration pair at offset `i`; eng_max is read signed as R158 needs (log 15). -/
def getPair (i : Nat) (p : List Byte) : CalPair :=
  ⟨getU 2 i p, getS 2 (i + 2) p, getU 2 (i + 4) p, getS 2 (i + 6) p⟩

/-- A lever's points at offset `i`. -/
def getLever (i : Nat) (p : List Byte) : LeverCal :=
  ⟨getU 2 i p, getU 2 (i + 2) p, getU 2 (i + 4) p, getU 2 (i + 6) p⟩

/-- P1 part 1. -/
def getP1 (p : List Byte) : P1 :=
  { nominal := getU 2 0 p, ratedKw := getU 2 2 p, side := getS 1 4 p, assist := getU 2 5 p,
    openRamp := ⟨getU 2 7 p, getU 2 9 p⟩, confRamp := ⟨getU 2 11 p, getU 2 13 p⟩, idleDuty := getU 2 15 p,
    idleRpm := getU 2 17 p, ratedRpm := getU 2 19 p, stallRpm := getU 2 21 p, shiftRpm := getU 2 23 p,
    lagBand := getU 2 25 p, lagTime := getU 1 27 p, teeth := getU 1 28 p, period := getU 1 29 p }

/-- P2 part 1. -/
def getP2 (p : List Byte) : P2 :=
  { thetaMax := getU 2 0 p, gain := getU 2 2 p, sign := getS 1 4 p, gref := getU 2 5 p, deadband := getU 1 7 p,
    kp := getU 1 8 p, minDuty := getU 2 9 p, maxDuty := getU 2 11 p, jamBand := getU 2 13 p,
    jamLimit := getU 2 15 p, rest := if getU 1 17 p = 2 then .centre else .holdPosition, deadTime := getU 1 18 p,
    rudder := getPair 19 p }

/-- P3 part 1 and part 2. -/
def getP3 (p q : List Byte) : P3 :=
  { tParted := getU 2 0 p, tLow := getU 2 2 p, tSet := getU 2 4 p, tHigh := getU 2 6 p, tTrip := getU 2 8 p,
    hysteresis := getU 2 10 p, capFloor := getU 2 12 p, takeupDuty := getU 2 14 p, takeupLimit := getU 1 16 p,
    renderDuty := getU 2 17 p, renderLimit := getU 1 19 p, releaseDuty := getU 2 20 p, releaseTime := getU 1 22 p,
    deadTime := getU 1 23 p, tensionA := getPair 0 q, tensionB := getPair 8 q }

/-- P4 part 1 and part 2. -/
def getP4 (p q : List Byte) : P4 :=
  { kSupply := getU 2 0 p, kReturn := getU 2 2 p, kFill := getU 2 4 p, depth := getU 2 6 p, reserveL := getU 3 8 p,
    tolFixedL := getU 2 11 p, tolPermille := getU 2 13 p, level := getPair 15 p, fuelTemp := getPair 23 p,
    volumes := (List.range 11).map fun i => getU 3 (3 * i) q }

/-- P5 part 1. -/
def getP5 (p : List Byte) : P5 := ⟨getLever 0 p, getLever 8 p, getU 2 16 p⟩

/-- Ranges of a calibration pair: raw values 205..4000, eng values in the channel's range (R158, R210). -/
def pairInRange (lo hi : Int) (c : CalPair) : Bool :=
  inRange 205 4000 c.rawMin && inRange lo hi c.engMin && inRange 205 4000 c.rawMax && inRange lo hi c.engMax

/-- Orderings of a calibration pair (R200). -/
def pairOrdered (c : CalPair) : Bool := decide (c.rawMin < c.rawMax ∧ c.engMin ≠ c.engMax)

/-- Ranges of P1; without ENGINE fitted only N and the STATUS period are checked (R200, R210). -/
def p1InRange (engine : Bool) (c : P1) : Bool :=
  inRange 100 30000 c.nominal && inRange 2 10 c.period
    && (!engine || (inRange 100 8000 c.ratedKw && inRange (-1) 1 c.side && inRange 0 500 c.assist
      && inRange 1 8000 c.openRamp.up && inRange 1 8000 c.openRamp.down && inRange 1 8000 c.confRamp.up
      && inRange 1 8000 c.confRamp.down && inRange 50 400 c.idleDuty && inRange 1 6000 c.idleRpm
      && inRange 1 6000 c.ratedRpm && inRange 1 6000 c.stallRpm && inRange 1 6000 c.shiftRpm
      && inRange 1 2000 c.lagBand && inRange 1 30 c.lagTime && inRange 1 255 c.teeth))

/-- Orderings of P1 (R200). -/
def p1Ordered (engine : Bool) (c : P1) : Bool :=
  !engine || decide (c.stallRpm < c.idleRpm ∧ c.idleRpm ≤ c.shiftRpm ∧ c.shiftRpm < c.ratedRpm)

/-- Ranges of P2; `rest` is the code of the rest policy (R210). -/
def p2InRange (rest : Nat) (c : P2) : Bool :=
  inRange 50 450 c.thetaMax && inRange 0 1000 c.gain && (c.sign == 1 || c.sign == -1) && inRange 1 30000 c.gref
    && inRange 1 50 c.deadband && inRange 1 100 c.kp && inRange 0 1000 c.minDuty && inRange 0 1000 c.maxDuty
    && inRange 1 450 c.jamBand && inRange 500 10000 c.jamLimit && inRange 1 2 rest && inRange 10 255 c.deadTime
    && pairInRange (-1800) 1800 c.rudder

/-- Orderings of P2 (R200). -/
def p2Ordered (c : P2) : Bool :=
  decide (c.minDuty ≤ c.maxDuty ∧ c.deadband ≤ c.jamBand) && pairOrdered c.rudder

/-- Ranges of P3 (R210). -/
def p3InRange (c : P3) : Bool :=
  inRange 0 4000 c.tParted && inRange 0 4000 c.tLow && inRange 0 4000 c.tSet && inRange 0 4000 c.tHigh
    && inRange 0 4000 c.tTrip && inRange 1 4000 c.hysteresis && inRange 0 1000 c.capFloor
    && inRange 1 1000 c.takeupDuty && inRange 1 120 c.takeupLimit && inRange 1 1000 c.renderDuty
    && inRange 1 10 c.renderLimit && inRange 1 1000 c.releaseDuty && inRange 1 30 c.releaseTime
    && inRange 10 255 c.deadTime && pairInRange 0 4000 c.tensionA && pairInRange 0 4000 c.tensionB

/-- Orderings of P3 (R200). -/
def p3Ordered (c : P3) : Bool :=
  decide (c.tParted < c.tLow ∧ c.tLow < c.tSet ∧ c.tSet < c.tHigh ∧ c.tHigh < c.tTrip
    ∧ c.hysteresis ≤ c.tHigh - c.tLow) && pairOrdered c.tensionA && pairOrdered c.tensionB

/-- Ranges of P4 (R210). -/
def p4InRange (c : P4) : Bool :=
  inRange 1 65535 c.kSupply && inRange 1 65535 c.kReturn && inRange 1 65535 c.kFill && inRange 100 4000 c.depth
    && inRange 0 200000 c.reserveL && inRange 0 10000 c.tolFixedL && inRange 0 1000 c.tolPermille
    && pairInRange 0 8000 c.level && pairInRange (-50) 150 c.fuelTemp
    && c.volumes.all fun v => inRange 0 200000 v

/-- Whether a list does not decrease. -/
def nonDecreasing : List Nat → Bool
  | [] => true
  | [_] => true
  | a :: b :: rest => decide (a ≤ b) && nonDecreasing (b :: rest)

/-- Orderings of P4 (R200). -/
def p4Ordered (c : P4) : Bool := nonDecreasing c.volumes && pairOrdered c.level && pairOrdered c.fuelTemp

/-- Ranges of one lever (R210). -/
def leverInRange (c : LeverCal) : Bool :=
  inRange 205 4000 c.rawNeg && inRange 205 4000 c.rawNeutral && inRange 205 4000 c.rawPos && inRange 0 1000 c.det

/-- Edges of one lever in order: raw_neg < raw_neutral - det and raw_neutral + det < raw_pos (R200). -/
def leverOrdered (c : LeverCal) : Bool :=
  decide ((c.rawNeg : Int) < (c.rawNeutral : Int) - c.det ∧ c.rawNeutral + c.det < c.rawPos)

/-- Ranges of P5 (R210). -/
def p5InRange (c : P5) : Bool := leverInRange c.l1 && leverInRange c.l2 && inRange 10 200 c.matchBand

/-- Orderings of P5 (R200). -/
def p5Ordered (c : P5) : Bool := leverOrdered c.l1 && leverOrdered c.l2

end Sys2Proof.Machine
end

