-- ==== Sys2Proof/Machine/ResetValues.lean ====
section
/-! DEFINITION. The value of each block's state after a reset (R3, R21, R28, R37, R42, R68, R87, R110, R136, R146, R150,
R163, R172, R192, R195). -/

namespace Sys2Proof.Machine

open Sys2Proof

/-- No machinery fitted: every FIT strap open (log 5). -/
def fittedNone : Fitted := ⟨false, false, false, false, false⟩

/-- Leg flags empty. -/
def flagsNone : LegFlags := ⟨false, false, false, false, false, false⟩

/-- The cleared retention domain: R110, column "After POR, check bad" (R134). -/
def keptCleared : Retained := ⟨0, 0, 0, 0, 0, none, none, { flagsNone with restarted := true }, []⟩

/-- SC after a power-on reset, its straps read (R194, R195). -/
def scReset (stn : Station) (fit : Fitted) : Sc :=
  ⟨.listen, stn, fit, none, none, none, none, none, false, [], none, none, none⟩

/-- Empty transmit slots (R192). -/
def slotsEmpty : Slots := ⟨none, none, none, none, none, none, none, none⟩

/-- Counters at 0 (R191). -/
def countersZero : Counters := ⟨0, 0, 0, 0, 0, 0, 0, 0, 0, 0, 0, 0, 0, 0⟩

/-- TBI after either reset (R192). -/
def tbiReset : Tbi := ⟨.active, 0, none, slotsEmpty, [], none, 0, [], countersZero, none⟩

/-- A record in ABSENT: every field but the state is absent (R1, R3). -/
def recordAbsent : PeerRecord := ⟨.absent, none, none, none, none, none, none, none, none, none, none⟩

/-- PT after either reset (R3). -/
def ptReset : Vector PeerRecord 30 := Vector.replicate 30 recordAbsent

/-- An unset debounced input with no sample (R25). -/
def debounceUnset : Debounce := ⟨none, none⟩

/-- HCU after either reset (R21, R25, R28, R37, R39; own lever values and last queued DEMAND: log 21). -/
def hcuReset : Hcu :=
  { holder := none, epoch := 0, vacant := false, helm := .standby, lastDecline := none, requestTimer := none,
    demandTimer := none, take := debounceUnset, seize := debounceUnset, modeSel := debounceUnset, dOwn := 0,
    rOwn := 0, lastQueued := none, leverFault := false, demand := ⟨0, 0, .confined, none, false⟩,
    helmLossTimer := none, helmLost := false }

/-- TSU after either reset (R42). -/
def tsuReset : Tsu := ⟨0, 0, 0, 0, .at .neutral, none, .normal, 0, 0, 0, 0, 0⟩

/-- STU after either reset: UNFITTED without RUDDER, RESTING with it (R68). -/
def stuReset (rudder : Bool) : Stu :=
  ⟨if rudder then .resting else .unfitted, 0, none, 0, 0, none, false, none⟩

/-- A winch record after either reset: STANDBY if fitted, UNFITTED otherwise (R87). -/
def winchReset (fitted : Bool) : Winch :=
  ⟨if fitted then .standby else .unfitted, none, 0, none, none, false, 0, none, none, none, .engage, 0, 0, none⟩

/-- CU after either reset (R87). -/
def cuReset (fit : Fitted) : Cu := ⟨winchReset fit.winchA, winchReset fit.winchB⟩

/-- FAU after a reset over the retention contents and check word that stand (R110). -/
def fauReset (kept : Retained) (check : BitVec 16) : Fau := ⟨kept, check, [], none, none, 0, none⟩

/-- No latched alarm (R146). -/
def latchedNone : Latched :=
  ⟨false, false, false, false, false, false, false, false, false, false, false⟩

/-- TAU after either reset (R136, R146). -/
def tauReset : Tau := ⟨false, none, [], none, latchedNone⟩

/-- A channel record after either reset (R150). -/
def channelReset : ChannelRec := ⟨.noData, none, none, 0, 0⟩

/-- The seven channel records after either reset. -/
def channelsReset : Channels :=
  ⟨channelReset, channelReset, channelReset, channelReset, channelReset, channelReset, channelReset⟩

/-- Pulse counts at 0. -/
def countsZero : PulseCounts := ⟨0, 0, 0, 0⟩

/-- SSQ after a power-on reset; after a line reset the scan state may be BUSY instead (R150). -/
def ssqReset (scan : ScanState) : Ssq := ⟨scan, none, countsZero, true, countsZero, channelsReset, none⟩

/-- A coupled pair after either reset (R163, R172). -/
def pairReset : Pair := ⟨0, 0, 0, 0, none, none⟩

/-- DCH after either reset: rest levels, rest hold set (R163, R172). FAULT follows TAU once the straps have been
read (R148); the boundaries run from the end of the reset (R163; log 10). -/
def dchReset (fault : Bool) (now : Nat) : Dch :=
  ⟨⟨0, 0⟩, pairReset, pairReset, pairReset, ⟨false, false⟩, ⟨false, false⟩, .neutral, false, fault, true,
    now + 1000⟩

/-- No delivery waiting (log 24). -/
def dueNone : Due := ⟨false, false, false, false, false, false⟩

end Sys2Proof.Machine
end

