-- ==== Sys2Proof/Machine/State.lean ====
section
/-! DEFINITION. The state of the station, the reasons a step can stop, and the state after reset. -/

namespace Sys2Proof.Machine

open Sys2Proof

/-- The whole station: the queue of waiting commands, the model's own bookkeeping, the eleven blocks and the levels
of the inputs that act at once. Plain data. -/
structure State where
  pending : List Instr
  powered : Bool
  now     : Nat
  freeSeq : Nat
  due     : Due
  pins    : Pins
  sc      : Sc
  tbi     : Tbi
  pt      : Vector PeerRecord 30
  hcu     : Hcu
  tsu     : Tsu
  stu     : Stu
  cu      : Cu
  fau     : Fau
  tau     : Tau
  ssq     : Ssq
  dch     : Dch
  deriving DecidableEq, Repr

/-- Reasons a step faults: there is none. The spec gives every command of the table an effect in every state, if only
to be counted, ignored or to change nothing; nothing raises a fault, which is safe. -/
inductive Fault where
  deriving DecidableEq, Repr

/-- Reasons a step is refused. -/
inductive Refusal where
  /-- A command that has no meaning in the model yet, named as the table spells it. Raised by no arm of `exec`;
  stopping so is safe. -/
  | notModelled (mnemonic : String)
  deriving DecidableEq, Repr

/-- The station right after a power-on reset with every strap open (log 5): station number 0 is invalid, so FAULT is
active (R148) and the report timer is stopped (R197). -/
def State.reset : State :=
  { pending := [], powered := true, now := 0, freeSeq := 0, due := dueNone, pins := ⟨false, false, false⟩,
    sc := scReset 0 fittedNone, tbi := tbiReset, pt := ptReset, hcu := hcuReset, tsu := tsuReset,
    stu := stuReset false, cu := cuReset fittedNone, fau := fauReset keptCleared (retentionCrc keptCleared),
    tau := tauReset, ssq := ssqReset .stopped, dch := dchReset true 0 }

end Sys2Proof.Machine
end

