-- ==== Sys2Proof/Machine/Flags.lean ====
section
/-! DEFINITION. Views of the state that several units read: commissioned figures, the values PT derives, the demand
record as used, the alarm set, the FAULT request and the levels of the output lines. -/

namespace Sys2Proof.Machine

open Sys2Proof

/-! ### Commissioned figures -/

/-- Figures read where a block is absent: no unit that needs the block runs then (R199, R201; log 29). -/
def p1Zero : P1 := ⟨0, 0, 0, 0, ⟨0, 0⟩, ⟨0, 0⟩, 0, 0, 0, 0, 0, 0, 0, 0, 0⟩
def pairZero : CalPair := ⟨0, 0, 0, 0⟩
def p2Zero : P2 := ⟨0, 0, 0, 0, 0, 0, 0, 0, 0, 0, .holdPosition, 0, pairZero⟩
def p3Zero : P3 := ⟨0, 0, 0, 0, 0, 0, 0, 0, 0, 0, 0, 0, 0, 0, pairZero, pairZero⟩
def p4Zero : P4 := ⟨0, 0, 0, 0, 0, 0, 0, pairZero, pairZero, []⟩
def p5Zero : P5 := ⟨⟨0, 0, 0, 0⟩, ⟨0, 0, 0, 0⟩, 0⟩

/-- P1 as commissioned. -/
def cfg1 (s : State) : P1 := s.sc.p1.getD p1Zero
/-- P2 as commissioned. -/
def cfg2 (s : State) : P2 := s.sc.p2.getD p2Zero
/-- P3 as commissioned. -/
def cfg3 (s : State) : P3 := s.sc.p3.getD p3Zero
/-- P4 as commissioned. -/
def cfg4 (s : State) : P4 := s.sc.p4.getD p4Zero
/-- P5 as commissioned. -/
def cfg5 (s : State) : P5 := s.sc.p5.getD p5Zero

/-- The upper clamp of a received cap: N, or 30000 while P1 is absent (R186). -/
def capLimit (s : State) : Nat :=
  match s.sc.p1 with
  | some c => c.nominal
  | none => 30000

/-- The accepted-blocks mask: one flag for each present block, bit 0 P1 (R195, R208). -/
def acceptedMask (c : Sc) : BitVec 5 :=
  BitVec.ofNat 5 (c.p1.isSome.toNat + 2 * c.p2.isSome.toNat + 4 * c.p3.isSome.toNat + 8 * c.p4.isSome.toNat
    + 16 * c.p5.isSome.toNat)

/-- Whether the fitted mask requires a block (R199). -/
def blockRequired (f : Fitted) : Block → Bool
  | .p1 => true
  | .p2 => f.rudder
  | .p3 => f.winchA || f.winchB
  | .p4 => f.engine
  | .p5 => f.helm

/-- Whether a block is present in the commissioning record (R195). -/
def blockPresent (c : Sc) : Block → Bool
  | .p1 => c.p1.isSome
  | .p2 => c.p2.isSome
  | .p3 => c.p3.isSome
  | .p4 => c.p4.isSome
  | .p5 => c.p5.isSome

/-- Whether the record holds every block of the required set (R199). -/
def setComplete (c : Sc) : Bool :=
  [Block.p1, .p2, .p3, .p4, .p5].all fun b => !blockRequired c.fitted b || blockPresent c b

/-- JOINING, RUN or HOLD. -/
def joined (st : StationState) : Bool := st == .joining || st == .run || st == .hold

/-- RUN or HOLD. -/
def working (st : StationState) : Bool := st == .run || st == .hold

/-! ### PT: records and derived values (section 1.5) -/

/-- The record of station `n`; a number outside 1..30 has none and reads ABSENT (R1, R20). -/
def peer (s : State) (n : Station) : PeerRecord :=
  if validStation n then s.pt.getD (n.toNat - 1) recordAbsent else recordAbsent

/-- A record in HEARD, LIVE or STALE (R185, HEARD+). -/
def heardPlus (r : PeerRecord) : Bool := r.state == .heard || r.state == .live || r.state == .stale

/-- A record that counts toward the power and rudder sums: LIVE or STALE (R15). -/
def counted (r : PeerRecord) : Bool := r.state == .live || r.state == .stale

/-- The fitted mask of a record; nothing is fitted before the first STATUS. -/
def recordFitted (r : PeerRecord) : Fitted :=
  match r.core with
  | some c => c.fitted
  | none => fittedNone

/-- What one record adds to the power sum (R15). -/
def powerOf (r : PeerRecord) : Nat :=
  if counted r && (recordFitted r).engine then (match r.engine with | some e => e.power | none => 0) else 0

/-- What one record adds to the rudder sum (R15). -/
def gainOf (r : PeerRecord) : Nat :=
  if counted r && (recordFitted r).rudder then
    (match r.rudder with | some x => if x.responsive then x.gain else 0 | none => 0)
  else 0

/-- ΣA_peers (R15). -/
def sumPower (s : State) : Nat := (s.pt.toList.map powerOf).sum

/-- ΣG_peers (R15). -/
def sumGain (s : State) : Nat := (s.pt.toList.map gainOf).sum

/-- The caps of one record that count: those of a record in HEARD, LIVE or STALE (R16). -/
def capsOf (r : PeerRecord) : List Nat :=
  if heardPlus r then (r.winchA.bind (·.cap)).toList ++ (r.winchB.bind (·.cap)).toList else []

/-- The cap set: peer caps and own caps (R16, R103). -/
def capSet (s : State) : List Nat :=
  s.pt.toList.flatMap capsOf ++ s.cu.a.ownCap.toList ++ s.cu.b.ownCap.toList

/-- The lowest cap in the cap set, if there is one (R16). -/
def lowestCap (s : State) : Option Nat := (capSet s).min?

/-- A winch whose loss leaves a coupling unwatched (R9, R18). -/
def blindWinch : Option WinchPart → Bool
  | none => false
  | some w => !(w.state == .released || w.state == .standby || w.state == .unfitted)

/-- PT's part of COUPLING_BLIND (R18). -/
def ptBlind (s : State) : Bool :=
  s.pt.toList.any fun r => r.state == .lost && (blindWinch r.winchA || blindWinch r.winchB)

/-- The account set: every account part, whatever its record's state (R17). -/
def accountSet (s : State) : List Account := s.pt.toList.filterMap (·.account)

/-! ### The demand record as used (R37) -/

/-- D, R and mode as used: 0, 0 and CONFINED while the record is not valid. -/
def used (s : State) : DemandVals :=
  if s.hcu.demand.valid then ⟨s.hcu.demand.d, s.hcu.demand.r, s.hcu.demand.mode⟩ else ⟨0, 0, .confined⟩

/-- The ramp pair of the mode as used (R51). -/
def rampUsed (s : State) : Ramp :=
  match (used s).mode with
  | .opened => (cfg1 s).openRamp
  | .confined => (cfg1 s).confRamp

/-- The mode that MODE_SEL gives: OPEN only while its debounced state is inactive (R25). -/
def modeNow (h : Hcu) : Mode :=
  match h.modeSel.state with
  | some false => .opened
  | _ => .confined

/-! ### Conditions and the alarm set (R143) -/

/-- TANK_RESERVE: V_now present and below reserve_L (R120). -/
def tankReserve (s : State) : Bool :=
  match s.fau.vNow with
  | some v => decide (v < (cfg4 s).reserveL)
  | none => false

/-- SENSOR_FAULT: a fitted analog channel in FAULT in the latest sample set (R162). -/
def sensorFault (s : State) : Bool :=
  match s.ssq.sample with
  | none => false
  | some m => [m.l1, m.l2, m.rudder, m.tensionA, m.tensionB, m.level, m.fuelTemp].any fun r => r.status == .fault

/-- COUPLING_BLIND: PT's part or CU's part (R18, R97). -/
def couplingBlind (s : State) : Bool := ptBlind s || s.cu.a.state == .blind || s.cu.b.state == .blind

/-- The winch record of an own winch. -/
def winchRec (s : State) : WinchId → Winch
  | .a => s.cu.a
  | .b => s.cu.b

/-- An own winch in OVERLOAD or RENDERING (R109). -/
def winchOverloaded (w : Winch) : Bool := w.state == .overload || w.state == .rendering

/-- Whether an alarm is present (R143): latched alarms from TAU, condition alarms from their owners. -/
def alarmPresent (s : State) : Alarm → Bool
  | .helmLost => s.hcu.helmLost
  | .leverFault => s.hcu.leverFault
  | .engineFault => s.tau.latched.engineFault
  | .engineLag => s.tsu.cond == .lagging
  | .gearFault => s.tau.latched.gearFault
  | .steerStop => s.tau.latched.steerStop
  | .rudderJam => s.tau.latched.rudderJam
  | .couplingBlind => couplingBlind s
  | .takeupFailed => s.tau.latched.takeupFailedA || s.tau.latched.takeupFailedB
  | .overload => winchOverloaded s.cu.a || winchOverloaded s.cu.b
  | .parted => s.tau.latched.partedA || s.tau.latched.partedB
  | .tankReserve => tankReserve s
  | .fuelDiscrepancy => s.tau.latched.fuelDiscrepancy
  | .accountSaturated => s.tau.latched.accountSaturated
  | .accountRestarted => s.tau.latched.accountRestarted
  | .sensorFault => sensorFault s
  | .tripLatched => s.tau.latch

/-- The alarms in the order of their bits (R206). -/
def allAlarms : List Alarm :=
  [.helmLost, .leverFault, .engineFault, .engineLag, .gearFault, .steerStop, .rudderJam, .couplingBlind,
    .takeupFailed, .overload, .parted, .tankReserve, .fuelDiscrepancy, .accountSaturated, .accountRestarted,
    .sensorFault, .tripLatched]

/-- The alarm set as a mask (R206). -/
def alarmMask (s : State) : BitVec 17 :=
  BitVec.ofNat 17 ((allAlarms.map fun a => if alarmPresent s a then 2 ^ alarmBit a else 0).sum)

/-- TAU's FAULT request: SAFE, MUTE, or an invalid strapped number (R148). -/
def faultWanted (s : State) : Bool :=
  s.sc.station == .safe || s.tbi.line == .mute || !validStation s.sc.number

/-! ### Levels of the output lines (R163, R170, R171, R172, R173) -/

/-- The applied duty of a PWM channel (R163). -/
def appliedDuty (d : Dch) : PwmChannel → Nat
  | .gov => d.gov.app
  | .rudPort => d.rud.app1
  | .rudStbd => d.rud.app2
  | .haulA => d.wa.app1
  | .payA => d.wa.app2
  | .haulB => d.wb.app1
  | .payB => d.wb.app2

/-- The µs since the latest moment of a period boundary, 0..999 (R163); the boundary timer marks every 1000 µs, whether
or not the command that takes the requests has been sent (log 2). -/
def pwmPhase (s : State) : Nat := (s.now + 1000 - s.dch.boundaryAt) % 1000

/-- A PWM output: on for the first `appliedDuty` µs after each boundary, off for the rest of the period (R163). -/
def outPwm (s : State) (c : PwmChannel) : Bool := decide (pwmPhase s < appliedDuty s.dch c)

/-- GEAR_AH. -/
def outGearAh (s : State) : Bool := !s.dch.restHold && s.sc.fitted.engine && s.dch.gearReq == .ahead
/-- GEAR_AS. -/
def outGearAs (s : State) : Bool := !s.dch.restHold && s.sc.fitted.engine && s.dch.gearReq == .astern
/-- BRAKE_A_REL and BRAKE_B_REL; off without the winch (R173). -/
def outBrake (s : State) : WinchId → Bool
  | .a => !s.dch.restHold && s.sc.fitted.winchA && s.dch.brakeA.line
  | .b => !s.dch.restHold && s.sc.fitted.winchB && s.dch.brakeB.line
/-- CMD_LAMP. -/
def outLamp (s : State) : Bool := !s.dch.restHold && s.sc.fitted.helm && s.dch.lampReq
/-- FAULT, true while active; an unpowered part holds it active (section 12.7). -/
def outFault (s : State) : Bool := !s.powered || s.dch.faultReq

end Sys2Proof.Machine
end

