-- ==== Sys2Proof/Machine/Ops.lean ====
section
/-! DEFINITION. Operations that several units share: the own time base, line counters and refusals, transmit slots,
duty and brake requests to DCH, latched alarms, and the FAULT request. -/

namespace Sys2Proof.Machine

open Sys2Proof

/-- A command at a powered part; without VDD the part does no work (R133; log 23), and an input that turns then keeps the
level held for it (log 41). -/
def live (f : State → State) (s : State) : Host.Outcome State Fault Refusal :=
  .next (if s.powered then f s else s)

/-! ### Time -/

/-- The moment of an expiry: the own time base stands at least at `t` (log 2). -/
def reach (t : Nat) (s : State) : State := { s with now := max s.now t }

/-- An expiry of a timer: it happens at the timer's end; a stopped timer does not expire (log 2). -/
def atExpiry (timer : Option Nat) (f : Nat → State → State) (s : State) : State :=
  match timer with
  | none => s
  | some t => f t (reach t s)

/-! ### Line counters and refusals (R187, R191) -/

/-- One more occurrence, staying at 65535. -/
def saturated (n : Nat) : Nat := min 65535 (n + 1)

/-- One occurrence at a counter. -/
def bump (c : Counter) (k : Counters) : Counters :=
  match c with
  | .received => { k with received := saturated k.received }
  | .ignored => { k with ignored := saturated k.ignored }
  | .refused => { k with refused := saturated k.refused }
  | .defaultRouted => { k with defaultRouted := saturated k.defaultRouted }
  | .crcError => { k with crcError := saturated k.crcError }
  | .lengthError => { k with lengthError := saturated k.lengthError }
  | .rxOverrun => { k with rxOverrun := saturated k.rxOverrun }
  | .txError => { k with txError := saturated k.txError }
  | .coalesced => { k with coalesced := saturated k.coalesced }
  | .lifetimeDrop => { k with lifetimeDrop := saturated k.lifetimeDrop }
  | .replyBusy => { k with replyBusy := saturated k.replyBusy }
  | .staleCommand => { k with staleCommand := saturated k.staleCommand }
  | .staleLeg => { k with staleLeg := saturated k.staleLeg }
  | .scanOverrun => { k with scanOverrun := saturated k.scanOverrun }

/-- One occurrence at a line counter (R191). -/
def count (c : Counter) (s : State) : State :=
  { s with tbi := { s.tbi with counters := bump c s.tbi.counters } }

/-- A refusal of a frame: REFUSED and the last-refusal record (R187). -/
def refuse (f : Frame) (r : Reason) (s : State) : State :=
  { s with tbi := { s.tbi with counters := bump .refused s.tbi.counters, lastRefusal := some ⟨f.cls, f.sender, r⟩ } }

/-! ### Transmit slots (R178, R179) -/

/-- The pending frame of a slot; the REPLY queue is no slot. -/
def slotOf (t : Slots) : TxSlot → Option TxFrame
  | .trip => t.trip
  | .capA => t.capA
  | .capB => t.capB
  | .command => t.command
  | .demand => t.demand
  | .status => t.status
  | .accountCurrent => t.accountCurrent
  | .accountClosed => t.accountClosed
  | .reply => none

/-- A slot's content set. -/
def putSlot (t : Slots) (k : TxSlot) (x : Option TxFrame) : Slots :=
  match k with
  | .trip => { t with trip := x }
  | .capA => { t with capA := x }
  | .capB => { t with capB := x }
  | .command => { t with command := x }
  | .demand => { t with demand := x }
  | .status => { t with status := x }
  | .accountCurrent => { t with accountCurrent := x }
  | .accountClosed => { t with accountClosed := x }
  | .reply => t

/-- A newer frame for the slot of a frame in flight: a failed attempt then discards the old one (R179). -/
def overtaken (k : TxSlot) (fl : InFlight) : InFlight :=
  if fl.slot == k && fl.fate == .keep then { fl with fate := .coalesced } else fl

/-- A frame queued into its slot, replacing a pending one with COALESCED (R178). -/
def queueTbi (k : TxSlot) (f : Frame) (lifeEnd : Nat) (t : Tbi) : Tbi :=
  { t with
    slots := putSlot t.slots k (some ⟨f, t.nextSeq, lifeEnd⟩)
    nextSeq := t.nextSeq + 1
    inflight := t.inflight.map (overtaken k)
    counters := if (slotOf t.slots k).isSome then bump .coalesced t.counters else t.counters }

/-- An own frame queued with its lifetime in ms. -/
def queueFrame (k : TxSlot) (cls : BitVec 4) (payload : List Byte) (life : Nat) (s : State) : State :=
  { s with tbi := queueTbi k ⟨cls, s.sc.number, payload⟩ (s.now + ms life) s.tbi }

/-- A DEMAND withdrawn from its slot, and one in flight marked to be discarded uncounted (R33, R179). -/
def withdrawDemand (t : Tbi) : Tbi :=
  { t with
    slots := { t.slots with demand := none }
    inflight := t.inflight.map fun fl => if fl.slot == .demand then { fl with fate := .withdrawn } else fl }

/-- The end of an attempt without success: the frame stays pending or is discarded as R179 gives (log 14). -/
def endAttempt (t : Tbi) : Tbi :=
  match t.inflight with
  | none => t
  | some fl =>
    let u := { t with inflight := none }
    match fl.fate with
    | .keep => { u with slots := putSlot u.slots fl.slot (some fl.tx) }
    | .coalesced => { u with counters := bump .coalesced u.counters }
    | .dropped =>
      { u with
        counters := bump .lifetimeDrop u.counters
        replies := if fl.slot == .reply then u.replies.tail else u.replies }
    | .withdrawn => u

/-! ### DCH requests (R164, R169, R170) -/

/-- A coupled pair of DCH. -/
def pairOf (d : Dch) : PairId → Pair
  | .rudder => d.rud
  | .winchA => d.wa
  | .winchB => d.wb

/-- A coupled pair set. -/
def putPair (d : Dch) (i : PairId) (p : Pair) : Dch :=
  match i with
  | .rudder => { d with rud := p }
  | .winchA => { d with wa := p }
  | .winchB => { d with wb := p }

/-- The pair of a winch. -/
def winchPair : WinchId → PairId
  | .a => .winchA
  | .b => .winchB

/-- The brake of a winch. -/
def brakeOf (d : Dch) : WinchId → Brake
  | .a => d.brakeA
  | .b => d.brakeB

/-- The brake of a winch set. -/
def putBrake (d : Dch) (w : WinchId) (b : Brake) : Dch :=
  match w with
  | .a => { d with brakeA := b }
  | .b => { d with brakeB := b }

/-- A duty request clamped to 0..1000 (R164). -/
def clampDuty (n : Nat) : Nat := min 1000 n

/-- Requested duties of a pair replaced at once (R164). -/
def requestPair (i : PairId) (r1 r2 : Nat) (d : Dch) : Dch :=
  putPair d i { pairOf d i with req1 := clampDuty r1, req2 := clampDuty r2 }

/-- The active side of a pair: the one whose applied duty is not 0 (R163). -/
def activeSide (p : Pair) : Option Side :=
  if p.app1 ≠ 0 then some .one else if p.app2 ≠ 0 then some .two else none

/-- The commissioned dead-time of a pair in µs: P2 for the rudder pair, P3 for both winch pairs (R166). -/
def deadTime (s : State) : PairId → Nat
  | .rudder => (cfg2 s).deadTime
  | .winchA | .winchB => (cfg3 s).deadTime

/-- The active side of a pair stops: its side is recorded and the dead-time timer runs to `dead` (R166). -/
def stopPair (dead : Nat) (a : Side) (p : Pair) : Pair :=
  { p with app1 := 0, app2 := 0, last := some a, dead := some dead }

/-- An override cuts side `a` at this moment; an inactive side has nothing to cut (R167, R168). -/
def cutSide (dead : Nat) (a : Side) (p : Pair) : Pair :=
  if activeSide p = some a then stopPair dead a p else p

/-- A brake request acted on when it arrives (R169). -/
def brakeStep (r : BrakeReq) (p : Pair) (b : Brake) : Brake :=
  match r with
  | .release => ⟨true, false⟩
  | .engage => if activeSide p = none then ⟨false, false⟩ else { b with pending := true }

/-- CU's brake request for a winch (R169). -/
def requestBrake (w : WinchId) (r : BrakeReq) (d : Dch) : Dch :=
  putBrake d w (brakeStep r (pairOf d (winchPair w)) (brakeOf d w))

/-- A pair cut by the rest hold: its side is recorded, its timer stopped, its requests 0 (R166, R172). -/
def restPair (p : Pair) : Pair :=
  ⟨0, 0, 0, 0, match activeSide p with | some a => some a | none => p.last, none⟩

/-- Every output at its rest level at once, the rest hold set (R172). -/
def restDch (d : Dch) : Dch :=
  { d with
    gov := ⟨0, 0⟩, rud := restPair d.rud, wa := restPair d.wa, wb := restPair d.wb,
    brakeA := ⟨false, false⟩, brakeB := ⟨false, false⟩, gearReq := .neutral, restHold := true }

/-! ### Alarms and FAULT (R144, R148) -/

/-- An event of a latched alarm, or its clearing: TAU's latched alarms changed. -/
def onLatched (f : Latched → Latched) (s : State) : State :=
  { s with tau := { s.tau with latched := f s.tau.latched } }

/-- DCH's FAULT request follows TAU's conditions at the moment one begins or ends (R148, R171). -/
def syncFault (s : State) : State := { s with dch := { s.dch with faultReq := faultWanted s } }

end Sys2Proof.Machine
end

