-- ==== Sys2Proof/Machine/Bus.lean ====
section
/-! DEFINITION. TBI at the line (chapter 10): FRAME_RECEPTION, LINE_IDLE, ARBITRATION_LOSS, READBACK_ERROR,
TRANSMISSION_COMPLETE, MUTE_TIMER_EXPIRY and FRAME_LIFETIME_EXPIRY. -/

namespace Sys2Proof.Machine

open Sys2Proof

/-- TBI's record changed. -/
def onTbi (f : Tbi → Tbi) (s : State) : State := { s with tbi := f s.tbi }

/-- A checked frame joins the receive queue of up to 4, or is counted (R183). -/
def receive (c : Checked) (t : Tbi) : Tbi :=
  match c with
  | .crcError => { t with counters := bump .crcError t.counters }
  | .lengthError => { t with counters := bump .lengthError t.counters }
  | .passes f =>
    if t.rxQueue.length < 4 then { t with rxQueue := t.rxQueue ++ [f] }
    else { t with counters := bump .rxOverrun t.counters }

/-- FRAME_RECEPTION (R183): the bits received between start and end. -/
def execFrameReception (bits : List Bool) (s : State) : Host.Outcome State Fault Refusal :=
  live (onTbi (receive (lineCheck bits))) s

/-! ### Offering (R176, R177) -/

/-- The transmit slots of R178. -/
def allSlots : List TxSlot :=
  [.trip, .capA, .capB, .command, .demand, .status, .accountCurrent, .accountClosed]

/-- The pending frames: each slot's, and the oldest reply. -/
def candidates (t : Tbi) : List (TxSlot × TxFrame) :=
  (allSlots.filterMap fun k => (slotOf t.slots k).map fun x => (k, x)) ++ (t.replies.head?.map fun x => (.reply, x)).toList

/-- Whether a frame is better than another: lower rank, or equal rank and queued earlier (R177). -/
def better (x y : TxFrame) : Bool :=
  decide (x.frame.rank < y.frame.rank ∨ (x.frame.rank = y.frame.rank ∧ x.seq < y.seq))

/-- The better of the best so far and one more candidate. -/
def pickBetter (b : Option (TxSlot × TxFrame)) (x : TxSlot × TxFrame) : Option (TxSlot × TxFrame) :=
  match b with
  | none => some x
  | some y => if better x.2 y.2 then some x else some y

/-- The best pending frame (R177). -/
def bestPending (t : Tbi) : Option (TxSlot × TxFrame) := (candidates t).foldl pickBetter none

/-- The transmission of a frame starts: it is in flight, and its slot is free for a newer frame (R179). -/
def startFrame (k : TxSlot) (x : TxFrame) (t : Tbi) : Tbi :=
  { t with slots := putSlot t.slots k none, inflight := some ⟨k, x, .keep, false⟩ }

/-- Whether the station may offer at an idle: ACTIVE, a valid number, no frame of its own on the line (R176). -/
def mayOffer (s : State) : Bool := s.tbi.line == .active && validStation s.sc.number && s.tbi.inflight.isNone

/-- LINE_IDLE (R176, R177): the best pending frame starts. -/
def execLineIdle (s : State) : Host.Outcome State Fault Refusal :=
  live (fun s =>
    if mayOffer s then
      (match bestPending s.tbi with
       | some (k, x) => onTbi (startFrame k x) s
       | none => s)
    else s) s

/-! ### Ends of an attempt (R176, R179, R180) -/

/-- ARBITRATION_LOSS (R176): the frame stays pending as R179 gives, and the abort count stands. -/
def execArbitrationLoss (s : State) : Host.Outcome State Fault Refusal := live (onTbi endAttempt) s

/-- The abort of the frame in flight: TX_ERROR, one more consecutive abort (R180). -/
def abortFrame (t : Tbi) : Tbi :=
  let u := endAttempt t
  { u with counters := bump .txError u.counters, aborts := u.aborts + 1 }

/-- The line goes MUTE at the eighth consecutive abort, for 1000 ms (R181). -/
def muteAt (now : Nat) (t : Tbi) : Tbi :=
  if 8 ≤ t.aborts then { t with line := .mute, muteTimer := some (now + ms 1000) } else t

/-- READBACK_ERROR (R180, R181). -/
def execReadbackError (s : State) : Host.Outcome State Fault Refusal :=
  live (fun s => if s.tbi.inflight.isSome then syncFault (onTbi (fun t => muteAt s.now (abortFrame t)) s) else s) s

/-- The frame in flight is sent: it leaves its slot or the front of the REPLY queue (R178, R180). -/
def frameSent (t : Tbi) : Tbi :=
  match t.inflight with
  | none => t
  | some fl =>
    { t with
      inflight := none, aborts := 0, replies := if fl.slot == .reply then t.replies.tail else t.replies }

/-- TRANSMISSION_COMPLETE (R180). -/
def execTransmissionComplete (s : State) : Host.Outcome State Fault Refusal := live (onTbi frameSent) s

/-- MUTE_TIMER_EXPIRY (R181): ACTIVE again, the abort count 0, FAULT by TAU's other conditions. -/
def execMuteTimerExpiry (s : State) : Host.Outcome State Fault Refusal :=
  live (fun s =>
    atExpiry s.tbi.muteTimer (fun _ s =>
      syncFault (onTbi (fun t => { t with line := .active, muteTimer := none, aborts := 0 }) s)) s) s

/-! ### Lifetimes (R178, R179) -/

/-- A lifetime that has ended in flight is taken at the end of the attempt (R179). -/
def endInFlight (fl : InFlight) : InFlight :=
  { fl with lifeOver := true, fate := if fl.fate == .keep then .dropped else fl.fate }

/-- The frame in flight from slot `k` whose lifetime still runs. -/
def flying (k : TxSlot) (t : Tbi) : Option InFlight := t.inflight.filter fun fl => fl.slot == k && !fl.lifeOver

/-- The oldest reply that is not in flight, with what the queue holds without it. -/
def waitingReply (t : Tbi) : Option (TxFrame × List TxFrame) :=
  let away := t.inflight.any fun fl => fl.slot == .reply
  match t.replies, away with
  | x :: rest, false => some (x, rest)
  | y :: x :: rest, true => some (x, y :: rest)
  | _, _ => none

/-- The pending frame of a slot, or the oldest waiting reply, with TBI after it has been discarded by its lifetime. -/
def expiring (k : TxSlot) (t : Tbi) : Option (TxFrame × Tbi) :=
  let drop (u : Tbi) : Tbi := { u with counters := bump .lifetimeDrop u.counters }
  match k with
  | .reply => (waitingReply t).map fun x => (x.1, drop { t with replies := x.2 })
  | k => (slotOf t.slots k).map fun x => (x, drop { t with slots := putSlot t.slots k none })

/-- FRAME_LIFETIME_EXPIRY of a slot (R178, R179): the lifetime that ends first, in flight or pending, ends. -/
def execFrameLifetimeExpiry (k : TxSlot) (s : State) : Host.Outcome State Fault Refusal :=
  live (fun s =>
    let air (fl : InFlight) : State :=
      onTbi (fun t => { t with inflight := t.inflight.map endInFlight }) (reach fl.tx.lifeEnd s)
    match flying k s.tbi, expiring k s.tbi with
    | some fl, none => air fl
    | some fl, some (x, t) =>
      if fl.tx.lifeEnd ≤ x.lifeEnd then air fl else onTbi (fun _ => t) (reach x.lifeEnd s)
    | none, some (x, t) => onTbi (fun _ => t) (reach x.lifeEnd s)
    | none, none => s) s

end Sys2Proof.Machine
end

