-- ==== Sys2Proof/Machine/Steering.lean ====
section
/-! DEFINITION. STU (chapter 4): rudder states, command angle, position loop, jam watch, and the commands
STU_SCAN_COMPLETION, JAM_TIMER_EXPIRY and STEER_STOP_ACTIVE. -/

namespace Sys2Proof.Machine

open Sys2Proof

/-! ### Command angle (R71 to R73) -/

/-- The compensation factor c (R72). -/
def compensation (c : P2) (live : Nat) : Nat := if live = 0 then 1000 else clampNat 1000 1500 (1000 * c.gref / live)

/-- The command angle from R and c (R73). -/
def commandAngle (c : P2) (r : Int) (comp : Nat) : Int :=
  let a1 := quot (r * c.thetaMax) 1000
  let a2 := quot (a1 * c.gain) 1000
  let a3 := quot (a2 * comp) 1000
  clampInt (-c.thetaMax) c.thetaMax a3 * c.sign

/-! ### Rudder states (R69) -/

/-- The angle a reading gives: the value of a GOOD or SUSPECT channel; "no angle" otherwise (R69, R157). -/
def readingValue (r : Reading) : Option Int :=
  match r.status with
  | .good | .suspect => r.value
  | .noData | .fault => none

/-- Entry to a state other than FOLLOWING: duty 0 on both coils, jam watch stopped (R69). -/
def standIn (st : RudderState) (x : Stu) : Stu := { x with state := st, reqPort := 0, reqStbd := 0, jam := none }

/-- The state that settling gives, by the first case that applies (R69). -/
def settledState (s : State) (latest : Option Reading) : RudderState :=
  if s.sc.station = .listen ∨ s.sc.station = .safe then .resting
  else if s.pins.steerStop then .stopped
  else if latest.any (fun r => (readingValue r).isNone) then .blind
  else if s.sc.station = .run then .following
  else if s.sc.station = .hold then
    (match (cfg2 s).rest with | .centre => .following | .holdPosition => .resting)
  else .resting

/-- The rudder state settled (R69). -/
def settle (s : State) (x : Stu) : Stu :=
  match settledState s x.latest with
  | .following => { x with state := .following }
  | st => standIn st x

/-- STU's record replaced, the responsive flag following state and station (R70), with both coil requests to DCH. -/
def commitStu (x : Stu) (s : State) : State :=
  { s with
    stu := { x with responsive := x.state == .following && s.sc.station == .run }
    dch := requestPair .rudder x.reqPort x.reqStbd s.dch }

/-! ### Position loop and jam watch (R74 to R76) -/

/-- The duty law (R74). -/
def coilDuty (c : P2) (e : Int) : Nat := min c.maxDuty (c.minDuty + e.natAbs * c.kp)

/-- Movement from the reference toward the command, on the drive side (R76). -/
def movedBy (side : RudderSide) (ref measured : Int) : Int :=
  match side with
  | .stbd => measured - ref
  | .port => ref - measured

/-- The jam watch at a scan completion in FOLLOWING, by the first case that fits (R76). -/
def jamStep (c : P2) (now : Nat) (e measured : Int) (port stbd : Nat) (j : Option JamWatch) : Option JamWatch :=
  if (port = 0 ∧ stbd = 0) ∨ e.natAbs ≤ c.jamBand then none
  else
    let side : RudderSide := if stbd ≠ 0 then .stbd else .port
    let fresh : JamWatch := ⟨measured, side, now + ms c.jamLimit⟩
    match j with
    | none => some fresh
    | some w =>
      if w.side ≠ side then some fresh
      else if (c.deadband : Int) ≤ movedBy side w.ref measured then some fresh
      else some w

/-- The loop closed on a measured angle, with the end stops as sampled (R74, R75, R76). -/
def closeLoop (c : P2) (now : Nat) (angle measured : Int) (portLim stbdLim : Bool) (x : Stu) : Stu :=
  let e := angle - measured
  let port := if e < -(c.deadband : Int) ∧ portLim = false then coilDuty c e else 0
  let stbd := if (c.deadband : Int) < e ∧ stbdLim = false then coilDuty c e else 0
  { x with
    angle := angle, measured := some measured, reqPort := port, reqStbd := stbd
    jam := jamStep c now e measured port stbd x.jam }

/-- The command angle of a scan completion in FOLLOWING: R as used in RUN, 0 in HOLD (R71, R72, R83). -/
def followAngle (s : State) : Int :=
  let c := cfg2 s
  let run := s.sc.station == .run
  commandAngle c (if run then (used s).r else 0) (compensation c ((if run then c.gain else 0) + sumGain s))

/-- A scan completion in FOLLOWING; in HOLD a rudder that has reached centre rests (R83). -/
def followStep (s : State) (m : SampleSet) (measured : Int) (x : Stu) : Stu :=
  let c := cfg2 s
  let y := closeLoop c s.now (followAngle s) measured m.portLim m.stbdLim x
  if s.sc.station = .hold ∧ (followAngle s - measured).natAbs ≤ c.deadband then standIn .resting y else y

/-- The change of state that a scan completion brings before the loop (R69, R79, R80). -/
def scanTransition (s : State) (m : SampleSet) (x : Stu) : Stu :=
  match x.state with
  | .following | .resting => if (readingValue m.rudder).isNone then standIn .blind x else x
  | .blind => if (readingValue m.rudder).isSome then settle s x else x
  | .stopped => if m.steerStop then x else settle s x
  | .jammed | .unfitted => x

/-- STU's record after a scan completion in JOINING, RUN or HOLD (R74, R79, R80, R82). -/
def stuAfterScan (s : State) (m : SampleSet) : Stu :=
  let x := scanTransition s m { s.stu with latest := some m.rudder }
  match x.state, readingValue m.rudder with
  | .following, some v => followStep s m v x
  | _, some v => { x with measured := some v, reqPort := 0, reqStbd := 0 }
  | _, none => { x with reqPort := 0, reqStbd := 0 }

/-- STU's scan completion; nothing in SAFE (R84). -/
def stuScan (m : SampleSet) (s : State) : State :=
  if joined s.sc.station then commitStu (stuAfterScan s m) s else s

/-! ### Station states (R82 to R84) -/

/-- The record at a change of station state to JOINING, RUN or HOLD: RESTING, FOLLOWING and BLIND settle (R69). -/
def changeStu (s : State) (x : Stu) : Stu :=
  match x.state with
  | .resting | .following | .blind => settle s x
  | .stopped | .jammed | .unfitted => x

/-- STU at such a change; STEER_STOP active at the entry to JOINING is reported (R82). -/
def stuChange (s : State) : State :=
  if s.sc.fitted.rudder then
    onLatched (fun l => { l with steerStop := l.steerStop || (s.sc.station == .joining && s.pins.steerStop) })
      (commitStu (changeStu s s.stu) s)
  else s

/-- STU's record at entry to SAFE (R84). -/
def stuSafe (x : Stu) : Stu :=
  match x.state with
  | .unfitted => x
  | _ => { standIn .resting x with responsive := false }

/-- STU told of a clearing of RUDDER_JAM: a JAMMED rudder settles (R81). -/
def stuAckJam (s : State) : State :=
  if s.stu.state = .jammed then commitStu (settle s s.stu) s else s

/-! ### The commands -/

/-- STU_SCAN_COMPLETION (R74): STU takes the delivered rudder angle and inputs. -/
def execStuScanCompletion (s : State) : Host.Outcome State Fault Refusal :=
  live (fun s =>
    match s.ssq.sample with
    | some m => if s.due.stu then stuScan m { s with due := { s.due with stu := false } } else s
    | none => s) s

/-- JAM_TIMER_EXPIRY (R77). -/
def execJamTimerExpiry (s : State) : Host.Outcome State Fault Refusal :=
  live (fun s =>
    if s.stu.state = .following then
      atExpiry (s.stu.jam.map (·.timer)) (fun _ s =>
        onLatched (fun l => { l with rudderJam := true }) (commitStu (standIn .jammed s.stu) s)) s
    else s) s

/-- DCH's cut of both coils at STEER_STOP (R167). -/
def cutRudder (s : State) : State :=
  let dead := s.now + deadTime s .rudder
  { s with dch := { s.dch with rud := cutSide dead .one (cutSide dead .two s.dch.rud) } }

/-- STU at STEER_STOP turning active (R78). -/
def stuStop (s : State) : State :=
  if joined s.sc.station then
    onLatched (fun l => { l with steerStop := true })
      (match s.stu.state with
       | .resting | .following | .blind => commitStu (standIn .stopped s.stu) s
       | .stopped | .jammed | .unfitted => s)
  else s

/-- STEER_STOP_ACTIVE (R78, R167): an input already active does not turn active (log 2), and an
unpowered part keeps the level it holds (log 41). -/
def execSteerStopActive (s : State) : Host.Outcome State Fault Refusal :=
  live (fun s =>
    if s.pins.steerStop then s
    else
      let s := { s with pins := { s.pins with steerStop := true } }
      if s.sc.fitted.rudder then stuStop (cutRudder s) else s) s

end Sys2Proof.Machine
end

