-- ==== Sys2Proof/Machine/FuelOps.lean ====
section
/-! DEFINITION. The shared operations of FAU (chapter 6): window integration, level ring and sounding, reconciliation,
legs and their queue, ACCOUNT frames. -/

namespace Sys2Proof.Machine

open Sys2Proof

/-- The retention contents changed and the check word rewritten over them, as one update (R133). -/
def setKept (k : Retained) (s : State) : State :=
  { s with fau := { s.fau with kept := k, check := retentionCrc k } }

/-! ### Window integration (R112 to R116) -/

/-- The limit of an accumulator's magnitude, 2^39 - 1 (R116). -/
def accLimit : Nat := 549755813887

/-- An accumulator and its residue after a window, and whether the limit was passed. -/
structure Integrated where
  acc  : Int
  res  : Int
  passed : Bool
  deriving DecidableEq, Repr

/-- Steps 2 to 5 of R114, with the limit of R116. -/
def integrate (acc res raw f : Int) : Integrated :=
  let x := raw * f + res
  let dv := quot x 10000
  let next := acc + dv
  ⟨clampInt (-accLimit) accLimit next, x - dv * 10000, decide (next < -accLimit ∨ (accLimit : Int) < next)⟩

/-- The fuel temperature used, or none where it is defaulted (R112). -/
def fuelTempOf (r : Reading) : Option Int := (readingValue r).map (clampInt (-20) 90)

/-- The correction factor f (R113). -/
def correction (temp : Option Int) : Int := 10000 - 8 * (temp.getD 15 - 15)

/-- The raw consumed volume of a window (R114, step 1). -/
def rawConsumed (c : P4) (n : PulseCounts) : Int := (n.supply * c.kSupply : Nat) - (n.ret * c.kReturn : Nat)

/-- The raw fill volume of a window (R115). -/
def rawFill (c : P4) (n : PulseCounts) : Int := (n.fill * c.kFill : Nat)

/-- Whether a delivered count stands at its limit (R112). -/
def overrange (n : PulseCounts) : Bool := n.supply == 4095 || n.ret == 4095 || n.fill == 4095

/-- The open leg after a window. A leg flagged SATURATED is frozen (R116). -/
def windowStep (c : P4) (n : PulseCounts) (temp : Option Int) (k : Retained) : Retained :=
  if k.flags.saturated then k
  else
    let x := integrate k.accC k.resC (rawConsumed c n) (correction temp)
    let y := integrate k.accF k.resF (rawFill c n) (correction temp)
    { k with
      accC := x.acc, resC := x.res, accF := y.acc.toNat, resF := y.res.toNat
      flags :=
        { k.flags with
          saturated := x.passed || y.passed
          tempDefaulted := k.flags.tempDefaulted || temp.isNone
          pulseOverrange := k.flags.pulseOverrange || overrange n } }

/-- FAU's window at a scan completion; the event of ACCOUNT_SATURATED (R116, R133). -/
def fauWindow (m : SampleSet) (s : State) : State :=
  if s.fau.kept.flags.saturated then s
  else
    let k := windowStep (cfg4 s) m.counts (fuelTempOf m.fuelTemp) s.fau.kept
    onLatched (fun l => { l with accountSaturated := l.accountSaturated || k.flags.saturated }) (setKept k s)

/-! ### Litres (R117) -/

/-- consumed_L. -/
def consumedL (k : Retained) : Int := quot k.accC 100000
/-- fill_L. -/
def fillL (k : Retained) : Nat := k.accF / 100000

/-! ### Tank level and volume (R118, R119, R121) -/

/-- The level ring after a LEVEL reading (R118). -/
def ringStep (r : Reading) (ring : List Nat) : List Nat :=
  match r.status with
  | .good => ring.drop (ring.length - 15) ++ (r.value.map Int.toNat).toList
  | .suspect => ring
  | .noData | .fault => []

/-- The filtered level: the mean of a full ring (R119). -/
def filtered (ring : List Nat) : Option Nat := if ring.length = 16 then some (ring.sum / 16) else none

/-- The volume of a level by the sounding table (R119). -/
def sounding (c : P4) (level : Nat) : Nat :=
  if c.depth ≤ level then c.volumes.getD 10 0
  else
    let i := level * 10 / c.depth
    let rem := level * 10 - i * c.depth
    c.volumes.getD i 0 + (c.volumes.getD (i + 1) 0 - c.volumes.getD i 0) * rem / c.depth

/-- The ring, filtered level and V_now after a scan completion (R118, R119). -/
def fauLevel (m : SampleSet) (s : State) : State :=
  let ring := ringStep m.level s.fau.ring
  { s with
    fau := { s.fau with ring := ring, level := filtered ring, vNow := (filtered ring).map (sounding (cfg4 s)) } }

/-- V_open captured at the first scan completion at which V_now is present (R121). -/
def fauCapture (s : State) : State :=
  match s.fau.kept.vOpen, s.fau.vNow with
  | none, some v => setKept { s.fau.kept with vOpen := some v } s
  | _, _ => s

/-- FAU's scan completion in JOINING, RUN, HOLD and SAFE (R111). -/
def fauScan (m : SampleSet) (s : State) : State :=
  if s.sc.station = .listen then s else fauCapture (fauLevel m (fauWindow m s))

/-! ### Reconciliation (R122, R123) -/

/-- The discrepancy d of the open leg. -/
def discrepancyOf (k : Retained) (vNow vOpen : Nat) : Int := vNow - (vOpen + fillL k - consumedL k)

/-- The tolerance of an evaluation. -/
def toleranceOf (c : P4) (k : Retained) : Nat :=
  c.tolFixedL + c.tolPermille * ((consumedL k).natAbs + fillL k) / 1000

/-- The reconciliation count and the event of FUEL_DISCREPANCY after an evaluation (R123). -/
def reconStep (exceeds : Bool) (n : Nat) : Nat × Bool :=
  if !exceeds then (0, false) else if 3 ≤ n + 1 then (0, true) else (n + 1, false)

/-- One evaluation with V_now and V_open present (R122, R123). -/
def evaluate (vNow vOpen : Nat) (s : State) : State :=
  let k := s.fau.kept
  let d := discrepancyOf k vNow vOpen
  let r := reconStep (decide (toleranceOf (cfg4 s) k < d.natAbs)) s.fau.recon
  let s' := setKept { k with d := some d, flags := { k.flags with discrepancy := k.flags.discrepancy || r.2 } } s
  onLatched (fun l => { l with fuelDiscrepancy := l.fuelDiscrepancy || r.2 })
    { s' with fau := { s'.fau with recon := r.1 } }

/-- The evaluation of the open leg at an ACCOUNT expiry; without V_now or V_open the count is set to 0 (R122). -/
def reconcile (s : State) : State :=
  match s.fau.vNow, s.fau.kept.vOpen with
  | some v, some o => evaluate v o s
  | _, _ => { s with fau := { s.fau with recon := 0 } }

/-! ### ACCOUNT frames and legs (R126, R127, R129) -/

/-- The open leg as ACCOUNT-CURRENT carries it (R129). -/
def currentAccount (s : State) : Account :=
  let k := s.fau.kept
  ⟨false, k.leg, consumedL k, fillL k, k.vOpen, s.fau.vNow, k.d, k.flags⟩

/-- ACCOUNT-CURRENT queued (R129). -/
def queueCurrent (s : State) : State :=
  queueFrame .accountCurrent clsAccount (putAccount (currentAccount s)) 10000 s

/-- A closed leg as ACCOUNT-CLOSED carries it (R129). -/
def closedAccount (r : ClosedLeg) : Account := ⟨true, r.leg, r.consumed, r.fill, r.vOpen, r.vClose, r.d, r.flags⟩

/-- The closed-leg record formed from the open leg (R126, step 1). -/
def closedOf (k : Retained) (vNow : Option Nat) (gap : Bool) : ClosedLeg :=
  ⟨k.leg, consumedL k, fillL k, k.vOpen, vNow, k.d, { k.flags with gap := k.flags.gap || gap }⟩

/-- The closed-leg queue after a record joins and leg `n` opens (R127). -/
def queueLeg (q : List ClosedLeg) (r : ClosedLeg) (n : Seq16) : List ClosedLeg :=
  ((q ++ [r]).drop (q.length + 1 - 4)).filter fun x => precedes x.leg n

/-- The retention contents after the open leg is closed and leg `n` opened (R126). -/
def openedLeg (k : Retained) (vNow : Option Nat) (gap : Bool) (n : Seq16) : Retained :=
  ⟨n, 0, 0, 0, 0, vNow, none, flagsNone, queueLeg k.closed (closedOf k vNow gap) n⟩

/-- The open leg closed and leg `n` opened (R126). -/
def closeLeg (gap : Bool) (n : Seq16) (s : State) : State :=
  let s' := queueFrame .accountClosed clsAccount (putAccount (closedAccount (closedOf s.fau.kept s.fau.vNow gap)))
    10000 s
  setKept (openedLeg s.fau.kept s.fau.vNow gap n) { s' with fau := { s'.fau with recon := 0 } }

/-- FAU told of a peer's ACCOUNT: adoption of a later leg from a LIVE record (R125). -/
def adoptLeg (closed : Bool) (leg : Seq16) (st : PeerState) (s : State) : State :=
  if s.sc.fitted.engine ∧ joined s.sc.station ∧ closed = false ∧ st = .live ∧ succeeds leg s.fau.kept.leg then
    closeLeg true leg s
  else s

end Sys2Proof.Machine
end

