-- ==== Sys2Proof/Machine/HelmOps.lean ====
section
/-! DEFINITION. The shared operations of HCU (chapter 2): claims on the holder record, the helm state machine, own DEMAND
and the helm inputs. -/

namespace Sys2Proof.Machine

open Sys2Proof

/-- HCU's record changed. -/
def onHcu (f : Hcu → Hcu) (s : State) : State := { s with hcu := f s.hcu }

/-! ### The demand record (R35, R37, R39) -/

/-- The time of last accepted DEMAND set to `now`: the helm-loss timer restarts and HELM_LOST ends (R39). -/
def stampDemand (now : Nat) (h : Hcu) : Hcu :=
  { h with demand := { h.demand with time := some now }, helmLossTimer := some (now + ms 1000), helmLost := false }

/-- Values taken into the demand record at `now`, valid set (R35, R38). -/
def takeDemand (now : Nat) (d r : Int) (m : Mode) (h : Hcu) : Hcu :=
  stampDemand now { h with demand := { h.demand with d := d, r := r, mode := m, valid := true } }

/-- The own levers written into the own demand record (R35). -/
def feedOwn (now : Nat) (h : Hcu) : Hcu := takeDemand now h.dOwn h.rOwn (modeNow h) h

/-- Payload of a DEMAND (R207). -/
def demandPayload (e : Seq16) (v : DemandVals) : List Byte :=
  putU 2 e.toNat ++ putS 2 v.d ++ putS 2 v.r ++ putU 1 (modeCode v.mode)

/-- The values the own DEMAND carries (R36). -/
def ownVals (h : Hcu) : DemandVals := ⟨h.dOwn, h.rOwn, modeNow h⟩

/-- A DEMAND queued with the own epoch and lever values, lifetime 150 ms (R35, R36). -/
def queueDemand (s : State) : State :=
  queueFrame .demand clsDemand (demandPayload s.hcu.epoch (ownVals s.hcu)) 150
    (onHcu (fun h => { h with lastQueued := some (ownVals h) }) s)

/-- A COMMAND queued, lifetime 500 ms (R178). -/
def queueCommand (payload : List Byte) (s : State) : State := queueFrame .command clsCommand payload 500 s

/-! ### Entering and leaving IN_COMMAND (R33, R35) -/

/-- CMD_LAMP's request (R171). -/
def setLamp (b : Bool) (s : State) : State := { s with dch := { s.dch with lampReq := b } }

/-- Entry to IN_COMMAND (R35). -/
def enterCommand (s : State) : State :=
  setLamp true
    (queueDemand
      (onHcu (fun h => { feedOwn s.now h with helm := .inCommand, demandTimer := some (s.now + ms 100) }) s))

/-- Leaving IN_COMMAND for STANDBY (R33). -/
def leaveCommand (s : State) : State :=
  let s' := setLamp false (onHcu (fun h => { stampDemand s.now h with helm := .standby, demandTimer := none }) s)
  { s' with tbi := withdrawDemand s'.tbi }

/-! ### Claims (R22, R23) -/

/-- The frame that carries a claim. -/
inductive ClaimKind where
  | grant | seize | demand
  deriving DecidableEq, Repr

/-- What the holder record does with a claim (R23). -/
inductive ClaimResult where
  | adopted | confirmed | lower
  deriving DecidableEq, Repr

/-- Precedence of a pair over a recorded pair (R22). -/
def hasPrecedence (e1 : Seq16) (s1 : Station) (e2 : Seq16) (s2 : Station) : Bool :=
  succeeds e1 e2 || (e1 == e2 && decide (s1.toNat < s2.toNat))

/-- How a claim is judged (R22, R23). -/
def judgeClaim (h : Hcu) (e : Seq16) (x : Station) : ClaimResult :=
  match h.holder with
  | none => .adopted
  | some y =>
    if e = h.epoch ∧ x = y then .confirmed
    else if hasPrecedence e x h.epoch y then .adopted
    else .lower

/-- The holder record after a claim; a change of holder by GRANT or SEIZE clears valid (R23). A GRANT to self equal to the
own pair in IN_COMMAND is confirmed here, and `helmAfterClaim` counts it STALE_COMMAND (R34; log 35). -/
def applyClaim (k : ClaimKind) (e : Seq16) (x : Station) (s : State) : State :=
  match judgeClaim s.hcu e x with
  | .adopted =>
    onHcu (fun h =>
      { h with
        holder := some x, epoch := e, vacant := false
        demand := { h.demand with valid := h.demand.valid && k == .demand } }) s
  | .confirmed => onHcu (fun h => { h with vacant := false }) s
  | .lower => count .staleCommand s

/-- The helm state machine after a claim that was judged `r` (R31, R33, R34). A GRANT to self equal to the own pair in
IN_COMMAND clears vacant as a confirmation (R23) and, having no precedence (R22), is counted STALE_COMMAND (R34;
log 35). -/
def helmAfterClaim (k : ClaimKind) (x : Station) (r : ClaimResult) (s : State) : State :=
  let own := x == s.sc.number
  match s.hcu.helm with
  | .requesting =>
    if own && k == .grant && r != .lower then enterCommand (onHcu (fun h => { h with requestTimer := none }) s)
    else if r == .adopted && !own then onHcu (fun h => { h with requestTimer := none, helm := .standby }) s
    else s
  | .inCommand =>
    if r == .adopted && !own then leaveCommand s
    else if own && k == .grant && r == .confirmed then count .staleCommand s
    else s
  | .standby =>
    if own && k == .grant && r != .lower then onHcu (fun h => { h with vacant := true }) s else s

/-- A claim (e, x): the holder record, then the helm state machine at a HELM-fitted station (R23). -/
def claim (k : ClaimKind) (e : Seq16) (x : Station) (s : State) : State :=
  let s' := applyClaim k e x s
  if s.sc.fitted.helm then helmAfterClaim k x (judgeClaim s.hcu e x) s' else s'

/-! ### Own claims (R29, R30) -/

/-- A SEIZE edge: the next epoch is taken without asking; discarded in IN_COMMAND (R30). -/
def seizeEdge (s : State) : State :=
  if s.hcu.helm = .inCommand then s
  else
    let e := s.hcu.epoch + 1
    enterCommand
      (queueCommand (putU 1 4 ++ putU 2 e.toNat)
        (onHcu (fun h =>
          { h with
            requestTimer := none, lastDecline := none, holder := some s.sc.number, epoch := e, vacant := false }) s))

/-- A TAKE edge: acts in STANDBY only; as a SEIZE when the holder is none or vacant (R29). -/
def takeEdge (s : State) : State :=
  if s.hcu.helm ≠ .standby then s
  else if s.hcu.holder = none ∨ s.hcu.vacant = true then seizeEdge s
  else
    queueCommand (putU 1 1 ++ putU 2 s.hcu.epoch.toNat ++ putS 2 s.hcu.dOwn ++ putS 2 s.hcu.rOwn)
      (onHcu (fun h =>
        { h with lastDecline := none, requestTimer := some (s.now + ms 2000), helm := .requesting }) s)

/-! ### Vacancy (R24) and SAFE (R28) -/

/-- The vacant flag set when `n` is the recorded holder. -/
def vacateIf (n : Station) (s : State) : State :=
  if s.hcu.holder = some n then onHcu (fun h => { h with vacant := true }) s else s

/-- The helm part of a STATUS from `n` handed to HCU: a recorded holder in STANDBY is vacant (R4, R5, R24). -/
def helmSeen (n : Station) (part : Option HelmPart) (s : State) : State :=
  match part with
  | some p => if p.state = .standby then vacateIf n s else s
  | none => s

/-- HCU's record at entry to SAFE (R28). -/
def hcuSafe (own : Station) (h : Hcu) : Hcu :=
  { h with
    helm := .standby, requestTimer := none, demandTimer := none
    vacant := h.vacant || h.holder == some own }

/-! ### Helm inputs (R25 to R27) -/

/-- One sample into a debounced input: two equal samples in a row set its state (R25). -/
def debounceStep (x : Bool) (d : Debounce) : Debounce := ⟨if d.prev = some x then some x else d.state, some x⟩

/-- A rising edge: the debounced state turns from inactive to active (R25). -/
def rising (d0 d1 : Debounce) : Bool := d0.state == some false && d1.state == some true

/-- The demand of a lever's raw value (R26). -/
def leverDemand (c : LeverCal) (raw : Int) : Int :=
  let upper : Int := c.rawNeutral + c.det
  let lower : Int := c.rawNeutral - c.det
  if upper < raw then min 1000 (quot (1000 * (raw - upper)) (c.rawPos - upper))
  else if raw < lower then max (-1000) (-(quot (1000 * (lower - raw)) (lower - c.rawNeg)))
  else 0

/-- Whether a lever channel carries a figure: GOOD or SUSPECT (R27). -/
def leverReads (r : Reading) : Bool := r.status == .good || r.status == .suspect

/-- D_own and R_own from the two lever channels: both 0 unless both carry a figure (R27). -/
def leverValues (c : P5) (l1 l2 : Reading) : Int × Int :=
  if leverReads l1 && leverReads l2 then
    (leverDemand c.l1 (l1.value.getD 0), leverDemand c.l2 (l2.value.getD 0))
  else (0, 0)

/-- HCU's record with the inputs of a sample set taken (R25, R26, R27). -/
def helmInputs (c : P5) (m : SampleSet) (h : Hcu) : Hcu :=
  { h with
    take := debounceStep m.pins.take h.take
    seize := debounceStep m.pins.seize h.seize
    modeSel := debounceStep m.pins.modeSel h.modeSel
    dOwn := (leverValues c m.l1 m.l2).1
    rOwn := (leverValues c m.l1 m.l2).2
    leverFault := m.l1.status == .fault || m.l2.status == .fault }

/-- The edges acted on at a scan completion. Two at once are taken in an order the spec leaves open (log 11). -/
def helmEdges (take seize : Bool) (s : State) : State :=
  match take, seize with
  | false, false => s
  | true, false => takeEdge s
  | false, true => seizeEdge s
  | true, true =>
    let s' := { s with freeSeq := s.freeSeq + 1 }
    if Config.takeBeforeSeize s.freeSeq then seizeEdge (takeEdge s') else takeEdge (seizeEdge s')

/-- Whether the new values ask for an extra DEMAND against the last one queued (R36). -/
def extraDemand (h : Hcu) : Bool :=
  match h.lastQueued with
  | none => false
  | some q =>
    decide (20 ≤ (h.dOwn - q.d).natAbs ∨ 20 ≤ (h.rOwn - q.r).natAbs) || modeNow h != q.mode

/-- The scan completion in IN_COMMAND: the own record fed, an extra DEMAND where R36 asks for it. -/
def commandScan (s : State) : State :=
  if s.hcu.helm = .inCommand then
    let s' := onHcu (feedOwn s.now) s
    if extraDemand s.hcu then queueDemand s' else s'
  else s

/-- HCU's scan completion (R25 to R30, R35, R36): edges act in RUN with LEVER_FAULT absent only. -/
def hcuScan (m : SampleSet) (s : State) : State :=
  let h := helmInputs (cfg5 s) m s.hcu
  let act := s.sc.station == .run && !h.leverFault
  commandScan
    (helmEdges (act && rising s.hcu.take h.take) (act && rising s.hcu.seize h.seize) { s with hcu := h })

end Sys2Proof.Machine
end

