-- ==== Sys2Proof/Machine/Thrust.lean ====
section
/-! DEFINITION. TSU (chapter 3): available power, the share computation, ramps, gear, engine condition, and the
commands TSU_SCAN_COMPLETION, RUNDOWN_TIMEOUT, DWELL_EXPIRY and SETTLE_EXPIRY. -/

namespace Sys2Proof.Machine

open Sys2Proof

/-! ### Engine condition (R61, R62) -/

/-- The speed that a set-point should produce (R61); its quotient by a rated_kW of 0 is free (log 37). -/
def expectedSpeed (c : P1) (sp : Int) : Int :=
  c.idleRpm + perFigure .expected (((c.ratedRpm : Int) - c.idleRpm) * sp.natAbs) c.ratedKw

/-- The lag rule at one scan completion in RUN or HOLD, condition not FAULT (R61). -/
def lagStep (c : P1) (speed : Nat) (t : Tsu) : Tsu :=
  let inGear := t.gear == .at .ahead || t.gear == .at .astern
  let below := decide ((speed : Int) < expectedSpeed c t.sp - c.lagBand)
  if !inGear then { t with lag := 0, inBand := 0 }
  else match t.cond with
    | .normal =>
      if !below then { t with lag := 0, inBand := 0 }
      else if c.lagTime * 10 ≤ t.lag + 1 then { t with cond := .lagging, lag := 0, inBand := 0 }
      else { t with lag := t.lag + 1, inBand := 0 }
    | .lagging =>
      if below then { t with lag := 0, inBand := 0 }
      else if c.lagTime * 10 ≤ t.inBand + 1 then { t with cond := .normal, lag := 0, inBand := 0 }
      else { t with lag := 0, inBand := t.inBand + 1 }
    | .fault => t

/-- The engine condition at one scan completion in RUN or HOLD (R61, R62). -/
def condStep (c : P1) (speed : Nat) (t : Tsu) : Tsu :=
  match t.cond with
  | .fault =>
    if speed < c.idleRpm then { t with lag := 0, inBand := 0, recovery := 0 }
    else if 20 ≤ t.recovery + 1 then { t with cond := .normal, lag := 0, inBand := 0, recovery := 0 }
    else { t with lag := 0, inBand := 0, recovery := t.recovery + 1 }
  | .normal | .lagging =>
    let u := lagStep c speed t
    if c.stallRpm ≤ speed then { u with stall := 0 }
    else if 20 ≤ t.stall + 1 then { u with cond := .fault, lag := 0, inBand := 0, stall := 0 }
    else { u with stall := t.stall + 1 }

/-! ### Available power (R43, R52) -/

/-- The derate (R43). -/
def derateOf (st : StationState) (cond : EngineCond) (reserve : Bool) : Nat :=
  match st with
  | .listen | .joining | .safe => 0
  | .run | .hold =>
    match cond with
    | .fault => 0
    | .lagging => 500
    | .normal => if reserve then 700 else 1000

/-- A set-point cut to plus or minus A_own (R52). -/
def cutSp (a : Nat) (sp : Int) : Int := clampInt (-a) a sp

/-- The derate and A_own evaluated, and sp cut (R43, R52). A rated_kW above 8000, accepted unchecked without ENGINE, leaves
A_own cut to the 8000 kW that R43 has as its end (log 37). -/
def powerStep (c : P1) (st : StationState) (reserve : Bool) (t : Tsu) : Tsu :=
  let d := derateOf st t.cond reserve
  let a := min 8000 (c.ratedKw * d / 1000)
  { t with derate := d, aOwn := a, sp := cutSp a t.sp }

/-- The governor duty of a station state (R53): idle_duty whenever sp is 0, whatever rated_kW is. A rated_kW of 0 comes with
no other sp, for R52 cuts sp to A_own, which is 0 then (`powerStep_sp_eq_zero`). -/
def govDuty (c : P1) (st : StationState) (sp : Int) : Nat :=
  match st with
  | .listen | .safe => 0
  | .joining => c.idleDuty
  | .run | .hold =>
    (clampInt c.idleDuty 1000 (c.idleDuty + quot ((1000 - (c.idleDuty : Int)) * sp.natAbs) c.ratedKw)).toNat

/-! ### The share computation (R46 to R49) -/

/-- What the share computation reads (R45). -/
structure ShareInputs where
  d      : Int
  r      : Int
  sumA   : Nat
  cap    : Option Nat
  aOwn   : Nat
  deriving DecidableEq, Repr

/-- The convoy demand Q (R46). -/
def convoyDemand (c : P1) (d : Int) : Nat := d.natAbs * c.nominal / 1000

/-- The effective demand: the least of Q, the lowest cap if there is one, and ΣA (R46). -/
def effectiveDemand (c : P1) (i : ShareInputs) : Nat :=
  let q := min (convoyDemand c i.d) i.sumA
  match i.cap with
  | some k => min q k
  | none => q

/-- The base share B; 0 when ΣA is 0 (R47). -/
def baseShare (c : P1) (i : ShareInputs) : Nat := effectiveDemand c i * i.aOwn / i.sumA

/-- The turn assist M: only for D greater than 0 (R48). -/
def turnAssist (c : P1) (i : ShareInputs) : Int :=
  if 0 < i.d then quot (-c.side * baseShare c i * c.assist * i.r) 1000000 else 0

/-- The target T_sp: the assisted share, clamped to 0..A_own, with the sign of D (R48, R49). -/
def shareTarget (c : P1) (i : ShareInputs) : Int :=
  i.d.sign * clampInt 0 i.aOwn (baseShare c i + turnAssist c i)

/-! ### The ramp (R50) -/

/-- One ramp step of sp toward a target (R50). The gear rules never pass a target whose sign opposes sp's; the model lets
such an sp fall toward 0 (log 38). -/
def rampStep (r : Ramp) (target sp : Int) : Int :=
  if 0 ≤ sp ∧ 0 ≤ target then
    if sp ≤ target then min target (sp + r.up) else max target (sp - r.down)
  else if sp ≤ 0 ∧ target ≤ 0 then
    if target ≤ sp then max target (sp - r.up) else min target (sp + r.down)
  else if 0 < sp then max 0 (sp - r.down)
  else min 0 (sp + r.down)

/-! ### Gear (R54 to R60, R63, R65) -/

/-- The gear of a sign; NEUTRAL for 0. -/
def gearOf (x : Int) : Gear := if 0 < x then .ahead else if x < 0 then .astern else .neutral

/-- The outputs a gear state gives: NEITHER, AHEAD or ASTERN (R54). -/
def gearOutput : GearState → Gear
  | .at g => g
  | .shifting .rundown origin _ => origin
  | .shifting .dwell _ _ => .neutral
  | .shifting .engage _ target => target

/-- What the gear rules read at a scan completion (R55 to R57): the moment, the ramp, T_sp and D as held, whether
GEAR_FAULT is present, and the engine speed. -/
structure GearInputs where
  now    : Nat
  ramp   : Ramp
  target : Int
  d      : Int
  fault  : Bool
  speed  : Nat
  deriving DecidableEq, Repr

/-- The RUNDOWN step (R56 from AHEAD or ASTERN, R57 from NEUTRAL). -/
def rundownStep (c : P1) (i : GearInputs) (origin : Gear) (t : Tsu) : Tsu :=
  match origin with
  | .neutral =>
    if i.target = 0 then { t with gear := .at .neutral, shiftTimer := none, sp := 0 }
    else if i.speed ≤ c.shiftRpm then
      { t with gear := .shifting .engage .neutral (gearOf i.target), shiftTimer := some (i.now + ms 1000), sp := 0 }
    else { t with gear := .shifting .rundown .neutral (gearOf i.target), sp := 0 }
  | .ahead | .astern =>
    if gearOf i.target = origin then
      { t with gear := .at origin, shiftTimer := none, sp := rampStep i.ramp i.target t.sp }
    else
      let sp := rampStep i.ramp 0 t.sp
      if sp = 0 ∧ i.speed ≤ c.shiftRpm then
        { t with gear := .shifting .dwell origin (gearOf i.d), shiftTimer := some (i.now + ms 1500), sp := sp }
      else { t with gear := .shifting .rundown origin (gearOf i.d), sp := sp }

/-- The gear rules and the ramp at a scan completion with the trip latch clear (R45 steps 5 and 6, R55). -/
def gearStep (c : P1) (i : GearInputs) (t : Tsu) : Tsu :=
  match t.gear with
  | .at g =>
    if i.target = 0 ∨ gearOf i.target = g then
      { t with sp := if g = .neutral then 0 else rampStep i.ramp i.target t.sp }
    else if i.fault then { t with sp := if g = .neutral then 0 else rampStep i.ramp 0 t.sp }
    else rundownStep c i g { t with shiftTimer := some (i.now + ms 10000) }
  | .shifting .rundown origin _ => rundownStep c i origin t
  | .shifting .dwell origin _ => { t with gear := .shifting .dwell origin (gearOf i.d), sp := 0 }
  | .shifting .engage _ _ => { t with sp := 0 }

/-- The gear under the trip latch (R63): sp is 0 and a RUNDOWN is abandoned. -/
def tripGear (t : Tsu) : Tsu :=
  match t.gear with
  | .shifting .rundown origin _ => { t with gear := .at origin, shiftTimer := none, sp := 0 }
  | .at _ | .shifting .dwell _ _ | .shifting .engage _ _ => { t with sp := 0 }

/-! ### TSU at its events -/

/-- The duty request formed from sp. -/
def dutyStep (c : P1) (st : StationState) (t : Tsu) : Tsu := { t with dutyReq := govDuty c st t.sp }

/-- TSU's record replaced, with its governor and gear requests to DCH (R53, R54, R164, R170). -/
def commitTsu (t : Tsu) (s : State) : State :=
  { s with
    tsu := t
    dch := { s.dch with gov := { s.dch.gov with req := clampDuty t.dutyReq }, gearReq := gearOutput t.gear } }

/-- What the share computation reads, for the A_own just evaluated (R44, R45). -/
def shareInputs (s : State) (aOwn : Nat) : ShareInputs :=
  ⟨(used s).d, (used s).r, aOwn + sumPower s, lowestCap s, aOwn⟩

/-- TSU's record after a scan completion in RUN (R45). -/
def tsuRun (s : State) (speed : Nat) : Tsu :=
  let c := cfg1 s
  let t := powerStep c .run (tankReserve s) (condStep c speed s.tsu)
  let u :=
    if s.tau.latch then tripGear t
    else
      let target := shareTarget c (shareInputs s t.aOwn)
      gearStep c ⟨s.now, rampUsed s, target, (used s).d, s.tau.latched.gearFault, speed⟩ { t with target := target }
  dutyStep c .run u

/-- TSU's record after a scan completion in HOLD (R65). -/
def tsuHold (s : State) (speed : Nat) : Tsu :=
  let c := cfg1 s
  let t := powerStep c .hold (tankReserve s) (condStep c speed s.tsu)
  let u := if s.tau.latch then tripGear t else gearStep c ⟨s.now, c.confRamp, 0, 0, true, speed⟩ t
  dutyStep c .hold u

/-- TSU's record after a scan completion in JOINING (R64). -/
def tsuJoining (s : State) : Tsu :=
  let c := cfg1 s
  dutyStep c .joining
    (powerStep c .joining (tankReserve s)
      { s.tsu with
        sp := 0, gear := .at .neutral, shiftTimer := none, lag := 0, inBand := 0, stall := 0, recovery := 0 })

/-- The event of ENGINE_FAULT: the condition enters FAULT (R62, R143). -/
def engineFaultEvent (t0 t1 : Tsu) (s : State) : State :=
  onLatched (fun l => { l with engineFault := l.engineFault || (t0.cond != .fault && t1.cond == .fault) }) s

/-- TSU's scan completion on a delivered speed (R45, R64, R65); nothing in LISTEN and SAFE (R66). -/
def tsuScan (speed : Nat) (s : State) : State :=
  match s.sc.station with
  | .run => engineFaultEvent s.tsu (tsuRun s speed) (commitTsu (tsuRun s speed) s)
  | .hold => engineFaultEvent s.tsu (tsuHold s speed) (commitTsu (tsuHold s speed) s)
  | .joining => commitTsu (tsuJoining s) s
  | .listen | .safe => s

/-- TSU at a change of station state to JOINING, RUN or HOLD (R43, R52, R53, R64). -/
def tsuChange (s : State) : State :=
  if s.sc.fitted.engine then
    let c := cfg1 s
    commitTsu (dutyStep c s.sc.station (powerStep c s.sc.station (tankReserve s) s.tsu)) s
  else s

/-- TSU at the setting of the trip latch (R63). -/
def tsuTrip (s : State) : State :=
  if s.sc.fitted.engine then commitTsu (dutyStep (cfg1 s) s.sc.station (tripGear s.tsu)) s else s

/-- TSU's record at entry to SAFE (R66). -/
def tsuSafe (t : Tsu) : Tsu :=
  { t with
    derate := 0, aOwn := 0, sp := 0, gear := .at .neutral, shiftTimer := none, cond := .normal, lag := 0,
    inBand := 0, stall := 0, recovery := 0, dutyReq := 0 }

/-! ### The commands -/

/-- TSU_SCAN_COMPLETION (R45): TSU takes the delivered engine speed. -/
def execTsuScanCompletion (s : State) : Host.Outcome State Fault Refusal :=
  live (fun s =>
    match s.ssq.sample with
    | some m => if s.due.tsu then tsuScan m.rpm { s with due := { s.due with tsu := false } } else s
    | none => s) s

/-- RUNDOWN_TIMEOUT (R58): GEAR_FAULT is latched and the shift abandoned; sp keeps its value. -/
def execRundownTimeout (s : State) : Host.Outcome State Fault Refusal :=
  live (fun s =>
    match s.tsu.gear with
    | .shifting .rundown origin _ =>
      atExpiry s.tsu.shiftTimer (fun _ s =>
        onLatched (fun l => { l with gearFault := true })
          (commitTsu { s.tsu with gear := .at origin, shiftTimer := none } s)) s
    | .at _ | .shifting .dwell _ _ | .shifting .engage _ _ => s) s

/-- The gear chosen at the dwell expiry: D as used, taken as 0 in HOLD and under the trip latch (R59, R63, R65). The latch is
read at the expiry, so one that set during the dwell and has cleared since takes no part (log 40). -/
def dwellGear (s : State) : Gear :=
  if s.sc.station == .hold || s.tau.latch then .neutral else gearOf (used s).d

/-- DWELL_EXPIRY (R59). -/
def execDwellExpiry (s : State) : Host.Outcome State Fault Refusal :=
  live (fun s =>
    match s.tsu.gear with
    | .shifting .dwell origin _ =>
      atExpiry s.tsu.shiftTimer (fun t s =>
        commitTsu
          (if dwellGear s = .neutral then { s.tsu with gear := .at .neutral, shiftTimer := none }
           else
            { s.tsu with gear := .shifting .engage origin (dwellGear s), shiftTimer := some (t + ms 1000) }) s) s
    | .at _ | .shifting .rundown _ _ | .shifting .engage _ _ => s) s

/-- SETTLE_EXPIRY (R60): the target gear becomes the gear state. -/
def execSettleExpiry (s : State) : Host.Outcome State Fault Refusal :=
  live (fun s =>
    match s.tsu.gear with
    | .shifting .engage _ target =>
      atExpiry s.tsu.shiftTimer (fun _ s =>
        commitTsu { s.tsu with gear := .at target, shiftTimer := none } s) s
    | .at _ | .shifting .rundown _ _ | .shifting .dwell _ _ => s) s

end Sys2Proof.Machine
end

