-- ==== Sys2Proof/Machine/WinchOps.lean ====
section
/-! DEFINITION. The shared operations of CU (chapter 5): caps and their publication, the beginning and end of an
operation, entry to a winch state, and what the setting of the trip latch and the entry to SAFE do to a winch. -/

namespace Sys2Proof.Machine

open Sys2Proof

/-- An own winch record replaced. -/
def putWinchRec (u : Cu) (w : WinchId) (x : Winch) : Cu :=
  match w with
  | .a => { u with a := x }
  | .b => { u with b := x }

/-- An own winch record changed. -/
def onWinch (w : WinchId) (f : Winch → Winch) (s : State) : State :=
  { s with cu := putWinchRec s.cu w (f (winchRec s w)) }

/-- Whether a winch is in the fitted mask. -/
def winchFitted (f : Fitted) : WinchId → Bool
  | .a => f.winchA
  | .b => f.winchB

/-- The CAP slot of a winch (R178). -/
def capSlot : WinchId → TxSlot
  | .a => .capA
  | .b => .capB

/-! ### Caps (R101, R102) -/

/-- floor_kW (R88). -/
def floorKw (s : State) : Nat := (cfg1 s).nominal * (cfg3 s).capFloor / 1000

/-- The cap of a tension in OVERLOAD (R101). -/
def overloadCap (s : State) (tension : Nat) : Nat :=
  let c := cfg3 s
  let n : Int := (cfg1 s).nominal
  (clampInt (floorKw s) n (quot (n * ((c.tTrip : Int) - tension)) ((c.tTrip : Int) - c.tHigh))).toNat

/-- The own cap of a winch: present in OVERLOAD, RENDERING and BLIND only (R101). -/
def ownCapOf (s : State) (x : Winch) : Option Nat :=
  match x.state with
  | .overload => some (overloadCap s x.lastTension)
  | .rendering | .blind => some (floorKw s)
  | .unfitted | .standby | .slack | .takingUp | .holding | .releasing | .released | .parted => none

/-- A CAP queued with the winch, the cap and the last tension; a present cap runs the repeat timer (R102). -/
def sendCap (w : WinchId) (cap : Option Nat) (s : State) : State :=
  queueFrame (capSlot w) clsCap
    (putU 1 (winchCode w) ++ putOptU 2 cap ++ putU 2 (winchRec s w).lastTension) 200
    (onWinch w (fun x => { x with lastCap := cap, capTimer := cap.map fun _ => s.now + ms 1000 }) s)

/-- Whether a computed cap is published, given the last published one (R102). -/
def capNews (s : State) (own last : Option Nat) : Bool :=
  match own, last with
  | none, none => false
  | some c, some l => decide ((cfg1 s).nominal / 100 ≤ ((c : Int) - l).natAbs)
  | some _, none | none, some _ => true

/-- The own cap computed, and published where R102 asks for it. -/
def recap (w : WinchId) (s : State) : State :=
  let own := ownCapOf s (winchRec s w)
  let s' := onWinch w (fun x => { x with ownCap := own }) s
  if capNews s own (winchRec s w).lastCap then sendCap w own s' else s'

/-! ### Operations (R98, R99) -/

/-- The drive off, the brake requested engaged, the timers of an operation stopped (R99). -/
def endOp (w : WinchId) (s : State) : State :=
  let s := onWinch w (fun x =>
    { x with phase := none, opTimer := none, dwellTimer := none, haul := 0, pay := 0, brakeReq := .engage }) s
  { s with dch := requestBrake w .engage (requestPair (winchPair w) 0 0 s.dch) }

/-- Entry to a winch state: run count 0, render inhibit as given, own cap computed (R87, R93, R101). -/
def enterWinch (w : WinchId) (st : WinchState) (inhibit : Bool) (s : State) : State :=
  recap w (onWinch w (fun x => { x with state := st, runCount := 0, renderInhibit := inhibit }) s)

/-- An operation ends and the winch enters a state (R94 to R97, R100, R107). -/
def finishOp (w : WinchId) (st : WinchState) (inhibit : Bool) (s : State) : State :=
  enterWinch w st inhibit (endOp w s)

/-- The start of an operation with its limit in seconds: brake released, brake dwell of 200 ms (R98). -/
def beginOp (w : WinchId) (st : WinchState) (limit : Nat) (s : State) : State :=
  let s := onWinch w (fun x =>
    { x with
      phase := some .brakeDwell, opTimer := some (s.now + ms (1000 * limit)), dwellTimer := some (s.now + ms 200),
      haul := 0, pay := 0, brakeReq := .release }) s
  enterWinch w st false { s with dch := requestBrake w .release (requestPair (winchPair w) 0 0 s.dch) }

/-- A take-up begins (R94). -/
def beginTakeup (w : WinchId) (s : State) : State := beginOp w .takingUp (cfg3 s).takeupLimit s

/-- A render begins (R95). -/
def beginRender (w : WinchId) (s : State) : State := beginOp w .rendering (cfg3 s).renderLimit s

/-- A release begins (R100). -/
def beginRelease (w : WinchId) (s : State) : State := beginOp w .releasing (cfg3 s).releaseTime s

/-- Whether an operation is in flight: a state in which the drive turns (section 5.3). -/
def operating (x : Winch) : Bool := x.state == .takingUp || x.state == .rendering || x.state == .releasing

/-- The duties of the operation in flight, haul and pay, once its brake dwell is over (R98). -/
def opDuties (s : State) (st : WinchState) : Nat × Nat :=
  match st with
  | .takingUp => ((cfg3 s).takeupDuty, 0)
  | .rendering => (0, (cfg3 s).renderDuty)
  | .releasing => (0, (cfg3 s).releaseDuty)
  | .unfitted | .standby | .slack | .holding | .overload | .released | .parted | .blind => (0, 0)

/-! ### Trip latch, SAFE, entry to RUN -/

/-- The setting of the trip latch at one winch (R107). -/
def tripWinch (w : WinchId) (s : State) : State :=
  match (winchRec s w).state with
  | .takingUp =>
    finishOp w (if (cfg3 s).tLow ≤ (winchRec s w).lastTension then .holding else .slack) false s
  | .releasing => finishOp w .released false s
  | .unfitted | .standby | .slack | .holding | .overload | .rendering | .released | .parted | .blind => s

/-- The setting of the trip latch at CU (R107): winch A whole before winch B, an order that R89 gives for scan completions
only (log 36). -/
def cuTrip (s : State) : State := tripWinch .b (tripWinch .a s)

/-- A winch record at entry to SAFE (R108). -/
def winchSafe (x : Winch) : Winch :=
  match x.state with
  | .unfitted => x
  | _ =>
    { x with
      state := .standby, phase := none, runCount := 0, opTimer := none, dwellTimer := none, renderInhibit := false,
      ownCap := none, lastCap := none, capTimer := none, brakeReq := .engage, haul := 0, pay := 0 }

/-- The state that a tension settles a winch to: HOLDING at or above T_low, SLACK below (R90, R97). -/
def settledWinch (s : State) (tension : Int) : WinchState :=
  if ((cfg3 s).tLow : Int) ≤ tension then .holding else .slack

/-- A winch at the entry to RUN from JOINING (R90). -/
def winchRun (w : WinchId) (s : State) : State :=
  if winchFitted s.sc.fitted w then
    match (winchRec s w).latest.bind readingValue with
    | some t => enterWinch w (settledWinch s t) false s
    | none => finishOp w .blind false s
  else s

/-- CU at the entry to RUN from JOINING (R90): winch A whole before winch B, an order that R89 gives for scan completions
only (log 36). -/
def cuRun (s : State) : State := winchRun .b (winchRun .a s)

end Sys2Proof.Machine
end

