-- ==== Sys2Proof/Machine/TripOps.lean ====
section
/-! DEFINITION. The shared operations of TAU's trip state (chapter 7): the setting of the latch, the beginning and the end
of an own cause, and TAU at the entry to SAFE. -/

namespace Sys2Proof.Machine

open Sys2Proof

/-- The cause of a trip record for an own cause (R138). -/
def ownTripCause : OwnCause → TripCause
  | .tripIn => .tripIn
  | .parted _ => .parted

/-- The winch of an own cause (R138). -/
def ownTripWinch : OwnCause → Option WinchId
  | .tripIn => none
  | .parted w => some w

/-- Winch code in a TRIP and a trip record, 0 none (R206). -/
def optWinchCode : Option WinchId → Nat
  | none => 0
  | some w => winchCode w

/-- A TRIP queued with an own cause, lifetime 1000 ms (R138, R178). -/
def queueTrip (c : OwnCause) (s : State) : State :=
  queueFrame .trip clsTrip (putU 1 (causeCode (ownTripCause c)) ++ putU 1 (optWinchCode (ownTripWinch c))) 1000 s

/-- The latch set with a record. A change from clear to set is a setting and reaches TSU and CU at that moment
(R138, R63, R107). -/
def setLatch (r : TripRecord) (s : State) : State :=
  let s' := { s with tau := { s.tau with latch := true, record := some r } }
  if s.tau.latch then s' else cuTrip (tsuTrip s')

/-- The beginning of an own cause; a cause already in the list does not begin (R137, R138). -/
def beginCause (c : OwnCause) (s : State) : State :=
  if c ∈ s.tau.causes then s
  else
    let s := setLatch ⟨ownTripCause c, s.sc.number, ownTripWinch c⟩ s
    queueTrip c
      { s with tau := { s.tau with causes := s.tau.causes ++ [c], repeatTimer := some (s.now + ms 1000) } }

/-- The end of an own cause; the last one leaving stops the repeat timer (R137, R139). -/
def endCause (c : OwnCause) (s : State) : State :=
  if c ∈ s.tau.causes then
    let rest := s.tau.causes.erase c
    { s with tau := { s.tau with causes := rest, repeatTimer := if rest.isEmpty then none else s.tau.repeatTimer } }
  else s

/-- The PARTED alarm latched for a winch (R96, R144). -/
def latchParted (w : WinchId) (l : Latched) : Latched :=
  match w with
  | .a => { l with partedA := true }
  | .b => { l with partedB := true }

/-- A winch enters PARTED: its operation ends, its cap is removed, PARTED is latched and its cause begins (R96). -/
def partWinch (w : WinchId) (s : State) : State :=
  beginCause (.parted w) (onLatched (latchParted w) (finishOp w .parted false s))

/-- TAU's record at entry to SAFE: latch and record stay, the causes are emptied, the timer stops (R137, R142). -/
def tauSafe (t : Tau) : Tau := { t with causes := [], repeatTimer := none }

end Sys2Proof.Machine
end

