-- ==== Sys2Proof/Machine/StationOps.lean ====
section
/-! DEFINITION. The shared operations of SC (chapter 11): STATUS, the changes of station state, and the two resets. -/

namespace Sys2Proof.Machine

open Sys2Proof

/-! ### STATUS (R197, R208) -/

/-- The power a station offers: A_own in RUN, 0 elsewhere (R44). -/
def offeredPower (s : State) : Nat := if s.sc.station = .run then s.tsu.aOwn else 0

/-- The winch part of an own winch (R103). -/
def ownWinchPart (x : Winch) : WinchPart := ⟨x.state, x.lastTension, x.ownCap⟩

/-- The full STATUS of the station as it stands (R197). The recorded epoch goes out in the helm part, so at a HELM-fitted
station only (R41, R208), although R24 speaks of every station (log 39). -/
def fullReport (s : State) : FullStatus :=
  let f := s.sc.fitted
  { reported := s.sc.station
    fitted := f
    period := (cfg1 s).period
    alarms := alarmMask s
    engine := if f.engine then some ⟨offeredPower s, s.tsu.sp, s.tsu.cond⟩ else none
    rudder := if f.rudder then some ⟨s.stu.measured.getD 0, (cfg2 s).gain, s.stu.responsive⟩ else none
    winchA := if f.winchA then some (ownWinchPart s.cu.a) else none
    winchB := if f.winchB then some (ownWinchPart s.cu.b) else none
    helm := if f.helm then some ⟨s.hcu.helm, s.hcu.epoch, s.hcu.lastDecline⟩ else none }

/-- SC's commissioning report (R208). -/
def ownCommPart (c : Sc) : CommPart :=
  ⟨acceptedMask c, c.lastRefusal.bind (·.block), c.lastRefusal.map (·.reason)⟩

/-- The STATUS payload: short in LISTEN, full in JOINING, RUN and HOLD (R197). -/
def statusPayload (s : State) : List Byte :=
  if s.sc.station = .listen then putShortStatus s.sc.fitted (ownCommPart s.sc) else putFullStatus (fullReport s)

/-- One own STATUS period in ms, 1000 in LISTEN (R197). -/
def statusPeriod (s : State) : Nat := if s.sc.station = .listen then 1000 else (cfg1 s).period * 100

/-- A STATUS queued (R197). -/
def queueStatus (s : State) : State := queueFrame .status clsStatus (statusPayload s) (statusPeriod s) s

/-! ### Changes of station state (R196) -/

/-- The station state set. -/
def setStation (st : StationState) (s : State) : State := { s with sc := { s.sc with station := st } }

/-- FAU at entry to JOINING (R111). -/
def fauJoin (s : State) : State :=
  if s.sc.fitted.engine then
    onLatched (fun l => { l with accountSaturated := l.accountSaturated || s.fau.kept.flags.saturated })
      { s with fau := { s.fau with accountTimer := some (s.now + ms 10000) } }
  else s

/-- The scan state when the control timer starts (R151). -/
def scanJoin : ScanState → ScanState
  | .interrupted => .interrupted
  | .stopped | .waiting | .busy _ => .waiting

/-- SC, SSQ, DCH and HCU at entry to JOINING (R39, R151, R172, R197, R198). -/
def startJoining (s : State) : State :=
  let p := (cfg1 s).period
  { s with
    sc :=
      { s.sc with
        station := .joining
        joinTimer := some (s.now + ms (3 * p * 100))
        reportTimer := some (s.now + ms (s.sc.number.toNat * (p * 100) / 32)) }
    ssq := { s.ssq with controlTimer := some s.now, scan := scanJoin s.ssq.scan }
    dch := { s.dch with restHold := false }
    hcu := { s.hcu with helmLossTimer := some (s.now + ms 1000), helmLost := false } }

/-- Entry to JOINING: the units start their work, then the extra STATUS is queued (R196, R197; log 12). -/
def enterJoining (s : State) : State := queueStatus (stuChange (tsuChange (fauJoin (startJoining s))))

/-- Entry to RUN from JOINING (R196, R90). -/
def enterRun (s : State) : State := queueStatus (cuRun (stuChange (tsuChange (setStation .run s))))

/-- Entry to HOLD from RUN (R202). -/
def enterHold (s : State) : State := queueStatus (stuChange (tsuChange (setStation .hold s)))

/-- Entry to RUN from HOLD: the winches stay as they are (R90, R202). -/
def leaveHold (s : State) : State := queueStatus (stuChange (tsuChange (setStation .run s)))

/-- Entry to SAFE: SC's timers stop, the outputs rest, every unit takes its SAFE values, and no STATUS is queued
(R203, R66, R84, R108, R28, R142, R172, R148). -/
def enterSafe (s : State) : State :=
  syncFault
    { s with
      sc := { s.sc with station := .safe, joinTimer := none, reportTimer := none }
      dch := { restDch s.dch with lampReq := false }
      tsu := if s.sc.fitted.engine then tsuSafe s.tsu else s.tsu
      stu := stuSafe s.stu
      cu := ⟨winchSafe s.cu.a, winchSafe s.cu.b⟩
      hcu := hcuSafe s.sc.number s.hcu
      tau := tauSafe s.tau }

/-- A duplicate: the line SILENCED, the attempt stopped, the mute timer stopped, SC in SAFE (R182, R179). -/
def duplicateSeen (s : State) : State :=
  enterSafe { s with tbi := { endAttempt s.tbi with line := .silenced, muteTimer := none } }

/-! ### Resets (R194, R195, R204) -/

/-- The first report in LISTEN: number × 31 ms after the entry; none with an invalid number (R197). -/
def listenReport (stn : Station) (now : Nat) : Option Nat :=
  if validStation stn then some (now + ms (31 * stn.toNat)) else none

/-- What both resets do to the units, over SC's, FAU's, TAU's and SSQ's own values (R204). -/
def resetUnits (sc : Sc) (fau : Fau) (tau : Tau) (ssq : Ssq) (now : Nat) (s : State) : State :=
  { s with
    now := now, due := dueNone, sc := { sc with reportTimer := listenReport sc.number now }, tbi := tbiReset
    pt := ptReset, hcu := hcuReset, tsu := tsuReset, stu := stuReset sc.fitted.rudder, cu := cuReset sc.fitted
    fau := fau, tau := tau, ssq := ssq, dch := dchReset (!validStation sc.number) now }

/-- The retention check at a power-on reset: whether the contents stand (R134). -/
def retentionGood (f : Fau) : Bool := f.check == retentionCrc f.kept

/-- FAU after a power-on reset: tested at an ENGINE-fitted station only (R110, R134). -/
def fauPor (engine : Bool) (f : Fau) : Fau :=
  if engine && !retentionGood f then fauReset keptCleared (retentionCrc keptCleared) else fauReset f.kept f.check

/-- TAU after a power-on reset: ACCOUNT_RESTARTED stands when the retention check was bad (R146). -/
def tauPor (engine : Bool) (f : Fau) : Tau :=
  { tauReset with latched := { latchedNone with accountRestarted := engine && !retentionGood f } }

/-- SC after a line reset: the record, the lock and the last refusal are kept (R195). -/
def scLineReset (stn : Station) (fit : Fitted) (c : Sc) : Sc :=
  { c with
    station := .listen, number := stn, fitted := fit, staging := [], joinTimer := none, reportTimer := none }

/-- The scan state after a line reset: an interrupted conversion runs to its end (R150, R154). -/
def scanLineReset : ScanState → ScanState
  | .busy _ | .interrupted => .interrupted
  | .stopped | .waiting => .stopped

/-- Whether a line reset enters JOINING at once (R201). -/
def joinsAtOnce (c : Sc) : Bool := c.lock && validStation c.number && setComplete c

end Sys2Proof.Machine
end

