-- ==== Sys2Proof/Machine/Admission.lean ====
section
/-! DEFINITION. Admission of the oldest waiting frame (R184 to R188) and the two default-path commands. -/

namespace Sys2Proof.Machine

open Sys2Proof

/-- What admission decides about a frame (R182, R184, R187). -/
inductive Verdict where
  | duplicate
  | ignored
  | refused (r : Reason)
  | defaultPath
  | admitted
  deriving DecidableEq, Repr

/-- The kind of a COMMAND frame, if byte 0 names one (R207). -/
def commandKind (f : Frame) : Option Kind := kindOf f.byte0

/-- A STATUS that reports LISTEN (R182, R208). -/
def listenStatus (f : Frame) : Bool := f.cls == clsStatus && f.byte0 == 0

/-- Who may send a class or kind (R185, column "Sender"). -/
inductive Senders where
  | peers | console | anyone
  deriving DecidableEq, Repr

/-- Whether a sender number is allowed. -/
def senderAllowed : Senders → Station → Bool
  | .peers, n => validStation n
  | .console, n => n == consoleNumber
  | .anyone, n => n != 0

/-- The record condition of a row (R185, column "Sender's record"). -/
inductive RecordNeed where
  | nothing | winch | helm | engine
  deriving DecidableEq, Repr

/-- Whether a sender's record meets a condition (R184, step 6). -/
def recordMeets (r : PeerRecord) : RecordNeed → Bool
  | .nothing => true
  | .winch => heardPlus r && ((recordFitted r).winchA || (recordFitted r).winchB)
  | .helm => heardPlus r && (recordFitted r).helm
  | .engine => heardPlus r && (recordFitted r).engine

/-- The refusal of a record that does not meet its condition (R185, column "Record refusal"). -/
def recordRefusal : RecordNeed → Reason
  | .nothing | .winch => .notWinch
  | .helm => .notHelm
  | .engine => .notEngine

/-- A row of the admission table (R185). `elsewhere` is what happens where the frame is not admitted: a refusal with a
reason, or no reason where it is ignored. -/
structure Row where
  senders   : Senders
  need      : RecordNeed
  here      : Bool
  elsewhere : Option Reason
  deriving DecidableEq, Repr

/-- The row of a COMMAND kind (R185). -/
def kindRow (st : StationState) : Kind → Row
  | .request | .grant | .decline | .seize => ⟨.peers, .helm, joined st, none⟩
  | .clearTrip | .releaseStation => ⟨.console, .nothing, joined st, some .state⟩
  | .ackAlarms => ⟨.console, .nothing, joined st || st == .safe, some .state⟩
  | .holdStation => ⟨.console, .nothing, st == .run, some .state⟩

/-- The row of a class other than COMMAND (R185). A QUERY is answered at a station with a valid number and the line
ACTIVE only (R185, R192). -/
def classRow (s : State) (cls : BitVec 4) : Row :=
  let st := s.sc.station
  match cls.toNat with
  | 0 => ⟨.peers, .nothing, joined st, none⟩
  | 1 => ⟨.peers, .winch, joined st, none⟩
  | 3 => ⟨.peers, .helm, joined st, none⟩
  | 4 => ⟨.console, .nothing, working st, some .state⟩
  | 5 => ⟨.peers, .nothing, st != .safe, none⟩
  | 6 => ⟨.console, .nothing, joined st && s.sc.fitted.engine, none⟩
  | 7 => ⟨.peers, .engine, st != .safe, none⟩
  | 8 => ⟨.console, .nothing, st == .listen, some .locked⟩
  | _ => ⟨.anyone, .nothing, s.tbi.line == .active && validStation s.sc.number, none⟩

/-- Steps 4 to 7 of R184 by a row. -/
def judgeRow (s : State) (f : Frame) (r : Row) : Verdict :=
  if !senderAllowed r.senders f.sender then .refused .sender
  else if !r.here then (match r.elsewhere with | some x => .refused x | none => .ignored)
  else if !recordMeets (peer s f.sender) r.need then .refused (recordRefusal r.need)
  else if !fieldsOk f then .refused .field
  else .admitted

/-- A COMMAND whose kind names none (R184, step 3). -/
def unknownKind (s : State) (f : Frame) : Verdict :=
  if validStation f.sender && (s.sc.station == .listen || s.sc.station == .safe) then .ignored else .refused .field

/-- The judgement of a frame (R184). -/
def judge (s : State) (f : Frame) : Verdict :=
  if validStation s.sc.number && f.sender == s.sc.number then
    (if joined s.sc.station && !listenStatus f then .duplicate else .ignored)
  else if 10 ≤ f.rank then .defaultPath
  else if f.cls == clsCommand then
    (match commandKind f with
     | some k => judgeRow s f (kindRow s.sc.station k)
     | none => unknownKind s f)
  else judgeRow s f (classRow s f.cls)

/-- A judged frame counted, and handed to its owner when it is admitted (R187, R188). -/
def settleFrame (v : Verdict) (f : Frame) (owner : Frame → State → State) (s : State) : State :=
  match v with
  | .duplicate => duplicateSeen (count .ignored s)
  | .ignored => count .ignored s
  | .refused r => refuse f r s
  | .defaultPath => count .defaultRouted s
  | .admitted => owner f (count .received s)

/-- The oldest waiting frame removed from the receive queue (R183). -/
def dequeue (s : State) : State := { s with tbi := { s.tbi with rxQueue := s.tbi.rxQueue.tail } }

/-- The oldest waiting frame taken by admission when it is one of the command's (log 3). -/
def takeFrame (fits : Frame → Bool) (owner : Frame → State → State) (s : State) : State :=
  match s.tbi.rxQueue.head? with
  | some f => if fits f then settleFrame (judge s f) f owner (dequeue s) else s
  | none => s

/-- Frames of a class. -/
def ofClass (c : BitVec 4) (f : Frame) : Bool := f.cls == c

/-- COMMAND frames of a kind, or of a kind that names none (log 3). -/
def ofKind (k : Kind) (f : Frame) : Bool := f.cls == clsCommand && (commandKind f == some k || commandKind f == none)

/-- COUPLE frames of an action, or of an action that names none (log 3). -/
def ofAction (code : Nat) (f : Frame) : Bool :=
  f.cls == clsCouple && (getU 1 2 f.payload == code || (getU 1 2 f.payload != 1 && getU 1 2 f.payload != 2))

/-- QUERY frames of a subject, or of a subject that names none (log 3). -/
def ofSubject (x : Subject) (f : Frame) : Bool :=
  f.cls == clsQuery && (subjectOf (getU 1 1 f.payload) == some x || subjectOf (getU 1 1 f.payload) == none)

/-- Whether a target code addresses this station: its own number or ALL (R141, R145, R202). -/
def addressed (s : State) (target : Nat) : Bool := target == s.sc.number.toNat || target == targetAll

/-- REPLY (R188): the default path counts it and discards it. -/
def execReply (s : State) : Host.Outcome State Fault Refusal := live (takeFrame (ofClass clsReply) fun _ s => s) s

/-- UNKNOWN_CLASS (R188): the default path counts it and discards it. -/
def execUnknownClass (s : State) : Host.Outcome State Fault Refusal :=
  live (takeFrame (fun f => decide (11 ≤ f.rank)) fun _ s => s) s

end Sys2Proof.Machine
end

