-- ==== Sys2Proof/Machine/Coupling.lean ====
section
/-! DEFINITION. CU (chapter 5): COUPLE, CU_SCAN_COMPLETION and the expiries of the winch timers. -/

namespace Sys2Proof.Machine

open Sys2Proof

/-! ### Console requests (R104 to R106) -/

/-- MAKE_FAST by the winch state (R105). Leaving PARTED ends the winch's trip cause (R96, R137). -/
def makeFast (f : Frame) (w : WinchId) (s : State) : State :=
  match (winchRec s w).state with
  | .slack | .released => beginTakeup w s
  | .parted => beginTakeup w (endCause (.parted w) s)
  | .takingUp => s
  | .holding | .overload | .rendering | .releasing | .blind | .standby | .unfitted => refuse f .state s

/-- RELEASE by the first condition that applies (R106). -/
def releaseFall (f : Frame) (w : WinchId) (s : State) : State :=
  let st := (winchRec s w).state
  if st = .releasing then s
  else if st ≠ .holding ∧ st ≠ .slack then refuse f .state s
  else if s.tau.latch then refuse f .trip s
  else if (used s).mode ≠ .confined then refuse f .mode s
  else if 50 < (used s).d.natAbs then refuse f .demand s
  else beginRelease w s

/-- CU takes an admitted COUPLE: target, then fitting, then the action's rule (R104). -/
def ownCouple (act : Frame → WinchId → State → State) (f : Frame) (s : State) : State :=
  if getU 1 0 f.payload ≠ s.sc.number.toNat then s
  else match winchOf (getU 1 1 f.payload) with
    | none => s
    | some w => if winchFitted s.sc.fitted w then act f w s else refuse f .notFitted s

/-- COUPLE MAKE_FAST (R105). -/
def execCoupleMakeFast (s : State) : Host.Outcome State Fault Refusal :=
  live (takeFrame (ofAction 1) (ownCouple makeFast)) s

/-- COUPLE RELEASE (R106). -/
def execCoupleRelease (s : State) : Host.Outcome State Fault Refusal :=
  live (takeFrame (ofAction 2) (ownCouple releaseFall)) s

/-! ### The scan completion (R89 to R97) -/

/-- The tension channel of a winch in the sample set. -/
def tensionOf (m : SampleSet) : WinchId → Reading
  | .a => m.tensionA
  | .b => m.tensionB

/-- The run count of a winch set. -/
def setRun (w : WinchId) (n : Nat) (s : State) : State := onWinch w (fun x => { x with runCount := n }) s

/-- The reading stored: the last tension takes a value that is given (R89). -/
def storeTension (w : WinchId) (r : Reading) (s : State) : State :=
  onWinch w (fun x =>
    { x with
      latest := some r
      lastTension := match readingValue r with | some v => v.toNat | none => x.lastTension }) s

/-- HOLDING with a tension T (R92). -/
def holdingScan (w : WinchId) (t : Int) (s : State) : State :=
  let c := cfg3 s
  if t < c.tParted then partWinch w s
  else if (c.tHigh : Int) ≤ t then enterWinch w .overload false s
  else if t < c.tLow then
    if 5 ≤ (winchRec s w).runCount + 1 then beginTakeup w s else setRun w ((winchRec s w).runCount + 1) s
  else setRun w 0 s

/-- Render inhibit is cleared by a tension below T_trip (R93). -/
def easeInhibit (w : WinchId) (t : Int) (s : State) : State :=
  onWinch w (fun x => { x with renderInhibit := x.renderInhibit && decide (((cfg3 s).tTrip : Int) ≤ t) }) s

/-- OVERLOAD with a tension T (R93); the cap is recomputed while the winch stays in OVERLOAD. -/
def overloadScan (w : WinchId) (t : Int) (s : State) : State :=
  let c := cfg3 s
  if t < c.tParted then partWinch w s
  else if (c.tTrip : Int) ≤ t ∧ (winchRec s w).renderInhibit = false then beginRender w s
  else if t < (c.tHigh : Int) - c.hysteresis then
    if 10 ≤ (winchRec s w).runCount + 1 then enterWinch w .holding false s
    else recap w (easeInhibit w t (setRun w ((winchRec s w).runCount + 1) s))
  else recap w (easeInhibit w t (setRun w 0 s))

/-- RENDERING with a tension T (R95). -/
def renderingScan (w : WinchId) (t : Int) (s : State) : State :=
  if t < (cfg3 s).tParted then partWinch w s
  else if t ≤ (cfg3 s).tSet then finishOp w .holding false s
  else s

/-- BLIND with a tension T: ten GOOD readings in a row settle the winch (R97). -/
def blindScan (w : WinchId) (r : Reading) (t : Int) (s : State) : State :=
  if r.status ≠ .good then setRun w 0 s
  else if 10 ≤ (winchRec s w).runCount + 1 then enterWinch w (settledWinch s t) false s
  else setRun w ((winchRec s w).runCount + 1) s

/-- A scan completion that gives a tension (R90 to R95, R97, R100). -/
def scanTension (w : WinchId) (r : Reading) (t : Int) (s : State) : State :=
  match (winchRec s w).state with
  | .unfitted | .standby | .slack | .releasing | .released | .parted => s
  | .takingUp => if ((cfg3 s).tSet : Int) ≤ t then finishOp w .holding false s else s
  | .holding => holdingScan w t s
  | .overload => overloadScan w t s
  | .rendering => renderingScan w t s
  | .blind => blindScan w r t s

/-- A scan completion that gives no tension: a monitored state enters BLIND (R89, R97). -/
def scanNoTension (w : WinchId) (s : State) : State :=
  match (winchRec s w).state with
  | .slack | .takingUp | .holding | .overload | .rendering | .releasing => finishOp w .blind false s
  | .blind => setRun w 0 s
  | .unfitted | .standby | .released | .parted => s

/-- One winch at a scan completion (R89). -/
def winchScan (w : WinchId) (m : SampleSet) (s : State) : State :=
  if winchFitted s.sc.fitted w then
    let s' := storeTension w (tensionOf m w) s
    match readingValue (tensionOf m w) with
    | some t => scanTension w (tensionOf m w) t s'
    | none => scanNoTension w s'
  else s

/-- CU_SCAN_COMPLETION (R89): winch A whole before winch B. -/
def execCuScanCompletion (s : State) : Host.Outcome State Fault Refusal :=
  live (fun s =>
    match s.ssq.sample with
    | some m =>
      if s.due.cu then winchScan .b m (winchScan .a m { s with due := { s.due with cu := false } }) else s
    | none => s) s

/-! ### Timers (R94, R95, R98, R100, R102) -/

/-- TAKEUP_FAILED latched for a winch (R94, R144). -/
def latchTakeupFailed (w : WinchId) (l : Latched) : Latched :=
  match w with
  | .a => { l with takeupFailedA := true }
  | .b => { l with takeupFailedB := true }

/-- TAKEUP_LIMIT_EXPIRY (R94): SLACK, with TAKEUP_FAILED. -/
def execTakeupLimitExpiry (w : WinchId) (s : State) : Host.Outcome State Fault Refusal :=
  live (fun s =>
    if (winchRec s w).state = .takingUp then
      atExpiry (winchRec s w).opTimer (fun _ s => onLatched (latchTakeupFailed w) (finishOp w .slack false s)) s
    else s) s

/-- RENDER_LIMIT_EXPIRY (R95): OVERLOAD with render inhibit, the cap recomputed from the last tension. -/
def execRenderLimitExpiry (w : WinchId) (s : State) : Host.Outcome State Fault Refusal :=
  live (fun s =>
    if (winchRec s w).state = .rendering then
      atExpiry (winchRec s w).opTimer (fun _ s => finishOp w .overload true s) s
    else s) s

/-- RELEASE_TIME_EXPIRY (R100): RELEASED. -/
def execReleaseTimeExpiry (w : WinchId) (s : State) : Host.Outcome State Fault Refusal :=
  live (fun s =>
    if (winchRec s w).state = .releasing then
      atExpiry (winchRec s w).opTimer (fun _ s => finishOp w .released false s) s
    else s) s

/-- The drive of an operation begins (R98). -/
def startDrive (w : WinchId) (s : State) : State :=
  let q := opDuties s (winchRec s w).state
  let s' := onWinch w (fun x => { x with phase := some .driving, dwellTimer := none, haul := q.1, pay := q.2 }) s
  { s' with dch := requestPair (winchPair w) q.1 q.2 s'.dch }

/-- BRAKE_DWELL_EXPIRY (R98): an operation still in flight requests its duty. -/
def execBrakeDwellExpiry (w : WinchId) (s : State) : Host.Outcome State Fault Refusal :=
  live (fun s =>
    if operating (winchRec s w) then atExpiry (winchRec s w).dwellTimer (fun _ s => startDrive w s) s else s) s

/-- CAP_REPEAT_EXPIRY (R102): the current cap is queued again and the timer restarted. -/
def execCapRepeatExpiry (w : WinchId) (s : State) : Host.Outcome State Fault Refusal :=
  live (fun s =>
    match (winchRec s w).ownCap with
    | some c => atExpiry (winchRec s w).capTimer (fun _ s => sendCap w (some c) s) s
    | none => s) s

end Sys2Proof.Machine
end

