-- ==== Sys2Proof/Machine/Drive.lean ====
section
/-! DEFINITION. DCH (chapter 9): PERIOD_BOUNDARY, DEAD_TIME_EXPIRY, STEER_STOP_INACTIVE, END_STOP_ACTIVE and
END_STOP_INACTIVE. -/

namespace Sys2Proof.Machine

open Sys2Proof

/-! ### The period boundary (R164 to R169, R172, R173) -/

/-- The side request that two requested duties resolve to (R165). -/
def sideRequest (r1 r2 : Nat) : Option (Side × Nat) :=
  if r2 < r1 then some (.one, r1) else if r1 < r2 then some (.two, r2) else none

/-- A side driven at a duty, the other off. -/
def driveSide (a : Side) (d : Nat) (p : Pair) : Pair :=
  match a with
  | .one => { p with app1 := d, app2 := 0 }
  | .two => { p with app1 := 0, app2 := d }

/-- A side request taken at a boundary (R166); `dead` is the end of a dead-time that starts now. -/
def boundaryPair (dead : Nat) (req : Option (Side × Nat)) (p : Pair) : Pair :=
  match activeSide p, req with
  | some a, none => stopPair dead a p
  | some a, some (b, d) => if a = b then driveSide b d p else stopPair dead a p
  | none, none => p
  | none, some (b, d) => if p.last = none ∨ p.last = some b ∨ p.dead = none then driveSide b d p else p

/-- The rudder pair's request under the rest hold, the fitted mask and the overrides (R167, R168, R172, R173). -/
def rudderRequest (s : State) : Option (Side × Nat) :=
  if s.dch.restHold || !s.sc.fitted.rudder || s.pins.steerStop then none
  else
    sideRequest (if s.pins.portLim then 0 else s.dch.rud.req1) (if s.pins.stbdLim then 0 else s.dch.rud.req2)

/-- A winch pair's request under the rest hold, the fitted mask and the brake interlock (R169, R172, R173). -/
def winchRequest (s : State) (w : WinchId) : Option (Side × Nat) :=
  let b := brakeOf s.dch w
  let p := pairOf s.dch (winchPair w)
  if s.dch.restHold || !winchFitted s.sc.fitted w || !b.line || b.pending then none else sideRequest p.req1 p.req2

/-- The brake line at a boundary that has left the pair as `p` (R169). -/
def boundaryBrake (p : Pair) (b : Brake) : Brake :=
  if b.pending && (activeSide p).isNone then ⟨false, false⟩ else b

/-- The governor duty applied at a boundary (R164, R172, R173). -/
def boundaryGov (s : State) : Nat := if s.dch.restHold || !s.sc.fitted.engine then 0 else s.dch.gov.req

/-- DCH after a period boundary at its moment `t` (R164 to R169). -/
def boundaryDch (t : Nat) (s : State) : Dch :=
  let a := boundaryPair (t + deadTime s .winchA) (winchRequest s .a) s.dch.wa
  let b := boundaryPair (t + deadTime s .winchB) (winchRequest s .b) s.dch.wb
  { s.dch with
    gov := { s.dch.gov with app := boundaryGov s }
    rud := boundaryPair (t + deadTime s .rudder) (rudderRequest s) s.dch.rud
    wa := a, wb := b, brakeA := boundaryBrake a s.dch.brakeA, brakeB := boundaryBrake b s.dch.brakeB
    boundaryAt := t + 1000 }

/-- PERIOD_BOUNDARY (R163, R164). -/
def execPeriodBoundary (s : State) : Host.Outcome State Fault Refusal :=
  live (fun s => atExpiry (some s.dch.boundaryAt) (fun t s => { s with dch := boundaryDch t s }) s) s

/-- DEAD_TIME_EXPIRY of a pair (R166): the timer stops. -/
def execDeadTimeExpiry (i : PairId) (s : State) : Host.Outcome State Fault Refusal :=
  live (fun s =>
    atExpiry (pairOf s.dch i).dead (fun _ s => { s with dch := putPair s.dch i { pairOf s.dch i with dead := none } })
      s) s

/-! ### Rudder overrides (R167, R168) -/

/-- STEER_STOP_INACTIVE (R167): no output changes at this moment. An unpowered part keeps the level it holds (log 41). -/
def execSteerStopInactive (s : State) : Host.Outcome State Fault Refusal :=
  live (fun s => { s with pins := { s.pins with steerStop := false } }) s

/-- The level of an end stop. -/
def endStopLevel (p : Pins) : RudderSide → Bool
  | .port => p.portLim
  | .stbd => p.stbdLim

/-- The level of an end stop set. -/
def setEndStop (p : Pins) (x : RudderSide) (b : Bool) : Pins :=
  match x with
  | .port => { p with portLim := b }
  | .stbd => { p with stbdLim := b }

/-- The coil of a rudder side: RUD_P or RUD_S (R165). -/
def coilSide : RudderSide → Side
  | .port => .one
  | .stbd => .two

/-- END_STOP_ACTIVE of a side (R168): its coil is cut at that moment. An unpowered part keeps the level it holds
(log 41). -/
def execEndStopActive (x : RudderSide) (s : State) : Host.Outcome State Fault Refusal :=
  live (fun s =>
    if endStopLevel s.pins x then s
    else
      let s := { s with pins := setEndStop s.pins x true }
      if s.sc.fitted.rudder then
        { s with dch := { s.dch with rud := cutSide (s.now + deadTime s .rudder) (coilSide x) s.dch.rud } }
      else s) s

/-- END_STOP_INACTIVE of a side (R168): the coil takes its request again from the next boundary. An unpowered part keeps the
level it holds (log 41). -/
def execEndStopInactive (x : RudderSide) (s : State) : Host.Outcome State Fault Refusal :=
  live (fun s => { s with pins := setEndStop s.pins x false }) s

end Sys2Proof.Machine
end

