-- ==== Sys2Proof/Machine/Fuel.lean ====
section
/-! DEFINITION. FAU (chapter 6): LEG, FAU_SCAN_COMPLETION and ACCOUNT_TIMER_EXPIRY. -/

namespace Sys2Proof.Machine

open Sys2Proof

/-- FAU takes a leg number against the open one (R124). -/
def takeLeg (n : Seq16) (s : State) : State :=
  let c := s.fau.kept.leg
  if n = c then s
  else if succeeds n c then closeLeg (n != c + 1) n s
  else count .staleLeg s

/-- FAU takes an admitted LEG (R124). -/
def ownLeg (f : Frame) (s : State) : State := takeLeg (BitVec.ofNat 16 (getU 2 0 f.payload)) s

/-- LEG (R124, R126). -/
def execLeg (s : State) : Host.Outcome State Fault Refusal := live (takeFrame (ofClass clsLeg) ownLeg) s

/-- FAU_SCAN_COMPLETION (R112 to R121): FAU takes the delivered counts, level and temperature. -/
def execFauScanCompletion (s : State) : Host.Outcome State Fault Refusal :=
  live (fun s =>
    match s.ssq.sample with
    | some m => if s.due.fau then fauScan m { s with due := { s.due with fau := false } } else s
    | none => s) s

/-- ACCOUNT_TIMER_EXPIRY (R122, R129): the timer restarts, the leg is evaluated, and ACCOUNT-CURRENT is queued in
JOINING, RUN and HOLD. -/
def execAccountTimerExpiry (s : State) : Host.Outcome State Fault Refusal :=
  live (fun s =>
    atExpiry s.fau.accountTimer (fun t s =>
      let s' := reconcile { s with fau := { s.fau with accountTimer := some (t + ms 10000) } }
      if joined s.sc.station then queueCurrent s' else s') s) s

end Sys2Proof.Machine
end

