-- ==== Sys2Proof/Machine/Helm.lean ====
section
/-! DEFINITION. HCU (chapter 2): COMMAND REQUEST, GRANT, DECLINE, SEIZE, DEMAND, HCU_SCAN_COMPLETION and the expiries of
the request, DEMAND and helm-loss timers. -/

namespace Sys2Proof.Machine

open Sys2Proof

/-- A demand field of a frame, clamped to -1000..+1000 (R186). -/
def getDemand (i : Nat) (p : List Byte) : Int := clampInt (-1000) 1000 (getS 2 i p)

/-- An epoch field of a frame. -/
def getEpoch (i : Nat) (p : List Byte) : Seq16 := BitVec.ofNat 16 (getU 2 i p)

/-- DECLINE queued, addressed to `q` (R32). -/
def queueDecline (q : Station) (r : Decline) (s : State) : State :=
  queueCommand (putU 1 3 ++ putU 1 q.toNat ++ putU 1 (declineCode (some r))) s

/-- GRANT queued, addressed to `q`, with the next epoch; the own record changes holder and HCU leaves IN_COMMAND
(R32, R23, R33). -/
def grantTo (q : Station) (s : State) : State :=
  let e := s.hcu.epoch + 1
  leaveCommand
    (onHcu (fun h =>
      { h with holder := some q, epoch := e, vacant := false, demand := { h.demand with valid := false } })
      (queueCommand (putU 1 2 ++ putU 1 q.toNat ++ putU 2 e.toNat) s))

/-- Whether a REQUEST's values lie within the match band of the own levers (R32). -/
def withinBand (s : State) (d r : Int) : Bool :=
  decide ((d - s.hcu.dOwn).natAbs ≤ (cfg5 s).matchBand ∧ (r - s.hcu.rOwn).natAbs ≤ (cfg5 s).matchBand)

/-- HCU takes an admitted REQUEST: answered in IN_COMMAND only (R32). -/
def ownRequest (f : Frame) (s : State) : State :=
  if s.sc.fitted.helm ∧ s.hcu.helm = .inCommand then
    if getEpoch 1 f.payload ≠ s.hcu.epoch then queueDecline f.sender .staleEpoch s
    else if withinBand s (getDemand 3 f.payload) (getDemand 5 f.payload) then grantTo f.sender s
    else queueDecline f.sender .mismatch s
  else s

/-- COMMAND REQUEST (R32). -/
def execCommandRequest (s : State) : Host.Outcome State Fault Refusal :=
  live (takeFrame (ofKind .request) ownRequest) s

/-- HCU takes an admitted GRANT: a claim (e, g), or STALE_COMMAND when it is addressed outside 1..30 (R23). -/
def ownGrant (f : Frame) (s : State) : State :=
  let g := getU 1 1 f.payload
  if 1 ≤ g ∧ g ≤ 30 then claim .grant (getEpoch 2 f.payload) (BitVec.ofNat 5 g) s else count .staleCommand s

/-- COMMAND GRANT (R23, R31, R33, R34). -/
def execCommandGrant (s : State) : Host.Outcome State Fault Refusal := live (takeFrame (ofKind .grant) ownGrant) s

/-- HCU takes an admitted DECLINE: it acts when addressed to self in REQUESTING (R31, R34). -/
def ownDecline (f : Frame) (s : State) : State :=
  if s.sc.fitted.helm ∧ getU 1 1 f.payload = s.sc.number.toNat ∧ s.hcu.helm = .requesting then
    onHcu (fun h =>
      { h with
        requestTimer := none, helm := .standby, lastDecline := (declineOf (getU 1 2 f.payload)).getD none }) s
  else s

/-- COMMAND DECLINE (R31). -/
def execCommandDecline (s : State) : Host.Outcome State Fault Refusal :=
  live (takeFrame (ofKind .decline) ownDecline) s

/-- HCU takes an admitted SEIZE: a claim (e, sender) (R23). -/
def ownSeize (f : Frame) (s : State) : State := claim .seize (getEpoch 1 f.payload) f.sender s

/-- COMMAND SEIZE (R23, R31, R33). -/
def execCommandSeize (s : State) : Host.Outcome State Fault Refusal := live (takeFrame (ofKind .seize) ownSeize) s

/-- HCU takes an admitted DEMAND: a claim, accepted when its pair is then the recorded one (R38). -/
def ownDemand (f : Frame) (s : State) : State :=
  let e := getEpoch 0 f.payload
  let s' := claim .demand e f.sender s
  if s'.hcu.holder = some f.sender ∧ s'.hcu.epoch = e then
    onHcu (takeDemand s.now (getDemand 2 f.payload) (getDemand 4 f.payload) (modeOf (getU 1 6 f.payload))) s'
  else s'

/-- DEMAND (R38). -/
def execDemand (s : State) : Host.Outcome State Fault Refusal := live (takeFrame (ofClass clsDemand) ownDemand) s

/-- HCU_SCAN_COMPLETION (R25 to R30, R35, R36): HCU takes the delivered levers and inputs. -/
def execHcuScanCompletion (s : State) : Host.Outcome State Fault Refusal :=
  live (fun s =>
    match s.ssq.sample with
    | some m => if s.due.hcu then hcuScan m { s with due := { s.due with hcu := false } } else s
    | none => s) s

/-- REQUEST_TIMER_EXPIRY (R31): REQUESTING ends in STANDBY. -/
def execRequestTimerExpiry (s : State) : Host.Outcome State Fault Refusal :=
  live (fun s =>
    atExpiry s.hcu.requestTimer (fun _ s =>
      onHcu (fun h =>
        { h with requestTimer := none, helm := if h.helm = .requesting then .standby else h.helm }) s) s) s

/-- DEMAND_TIMER_EXPIRY (R35): a DEMAND with the values of the latest scan completion; the timer restarts. -/
def execDemandTimerExpiry (s : State) : Host.Outcome State Fault Refusal :=
  live (fun s =>
    atExpiry s.hcu.demandTimer (fun t s =>
      queueDemand (onHcu (fun h => { h with demandTimer := some (t + ms 100) }) s)) s) s

/-- HELM_LOSS_TIMER_EXPIRY (R39): valid clears and HELM_LOST appears. -/
def execHelmLossTimerExpiry (s : State) : Host.Outcome State Fault Refusal :=
  live (fun s =>
    atExpiry s.hcu.helmLossTimer (fun _ s =>
      onHcu (fun h =>
        { h with helmLossTimer := none, helmLost := true, demand := { h.demand with valid := false } }) s) s) s

end Sys2Proof.Machine
end

