-- ==== Sys2Proof/Machine/Peers.lean ====
section
/-! DEFINITION. PT (chapter 1): STATUS, CAP, ACCOUNT, STALE_DEADLINE and LOSS_DEADLINE. -/

namespace Sys2Proof.Machine

open Sys2Proof

/-- The record of station `n` replaced; a number outside 1..30 has none (R1). -/
def putPeer (n : Station) (r : PeerRecord) (s : State) : State :=
  if validStation n then { s with pt := s.pt.setIfInBounds (n.toNat - 1) r } else s

/-- The record's state after an admitted STATUS (R7). -/
def heardState : PeerState → PeerState
  | .absent | .lost => .heard
  | .heard | .live | .stale => .live

/-- State, deadlines and account part after an admitted STATUS with report period `p` at `now` (R6, R7, R10). -/
def heard (now p : Nat) (r : PeerRecord) : PeerRecord :=
  { r with
    state := heardState r.state
    staleAt := some (now + ms (3 * p * 100))
    lossAt := some (now + ms (10 * p * 100))
    account := if r.state = .lost then none else r.account }

/-- A fitted winch of a peer that reports LISTEN (R5). -/
def winchAtRest (fitted : Bool) : Option WinchPart := if fitted then some ⟨.standby, 0, none⟩ else none

/-- A record after an admitted STATUS (R4, R5). -/
def statusRecord (now : Nat) (rep : StatusReport) (r : PeerRecord) : PeerRecord :=
  match rep with
  | .full x =>
    heard now x.period
      { r with
        core := some ⟨x.fitted, x.reported, x.period, x.alarms, now⟩, commissioning := none, engine := x.engine
        rudder := x.rudder, winchA := x.winchA, winchB := x.winchB, helm := x.helm }
  | .short f c =>
    heard now 10
      { r with
        core := some ⟨f, .listen, 10, 0, now⟩, commissioning := some c, engine := none, rudder := none
        winchA := winchAtRest f.winchA, winchB := winchAtRest f.winchB
        helm := if f.helm then some ⟨.standby, (r.helm.map (·.epoch)).getD 0, none⟩ else none }

/-- PT takes an admitted STATUS, then hands the helm part to HCU (R4, R5, R24). -/
def ownStatus (f : Frame) (s : State) : State :=
  let r := statusRecord s.now (getStatus (capLimit s) f.payload) (peer s f.sender)
  helmSeen f.sender r.helm (putPeer f.sender r s)

/-- STATUS (R4 to R7, R10, R182). -/
def execStatus (s : State) : Host.Outcome State Fault Refusal := live (takeFrame (ofClass clsStatus) ownStatus) s

/-- A winch part with the cap and tension of a CAP (R12). -/
def capPart (cap : Option Nat) (tension : Nat) (w : WinchPart) : WinchPart := { w with tension := tension, cap := cap }

/-- A record after a CAP for a winch in its fitted mask (R12). -/
def capRecord (w : WinchId) (cap : Option Nat) (tension : Nat) (r : PeerRecord) : PeerRecord :=
  match w with
  | .a => { r with winchA := r.winchA.map (capPart cap tension) }
  | .b => { r with winchB := r.winchB.map (capPart cap tension) }

/-- PT takes an admitted CAP; a named winch that is not fitted refuses it (R12). -/
def ownCap (f : Frame) (s : State) : State :=
  let r := peer s f.sender
  match winchOf (getU 1 0 f.payload) with
  | none => s
  | some w =>
    if winchFitted (recordFitted r) w then
      putPeer f.sender (capRecord w (getCap (capLimit s) 1 f.payload) (min 4000 (getU 2 3 f.payload)) r) s
    else refuse f .notWinch s

/-- CAP (R12). -/
def execCap (s : State) : Host.Outcome State Fault Refusal := live (takeFrame (ofClass clsCap) ownCap) s

/-- Whether an ACCOUNT replaces the account part stored (R14). -/
def replacesAccount (x : Account) (stored : Option Account) : Bool :=
  match stored with
  | none => true
  | some y => x.flags.restarted || succeeds x.leg y.leg || (x.leg == y.leg && (x.closed || !y.closed))

/-- PT takes an admitted ACCOUNT, then hands it to FAU (R14, R125). -/
def ownAccount (f : Frame) (s : State) : State :=
  let r := peer s f.sender
  let x := getAccount f.payload
  adoptLeg x.closed x.leg r.state
    (if replacesAccount x r.account then putPeer f.sender { r with account := some x } s else s)

/-- ACCOUNT (R14, R125). -/
def execAccount (s : State) : Host.Outcome State Fault Refusal := live (takeFrame (ofClass clsAccount) ownAccount) s

/-- STALE_DEADLINE of station `n` (R8): a record in HEARD or LIVE becomes STALE and keeps its fields. -/
def execStaleDeadline (n : Station) (s : State) : Host.Outcome State Fault Refusal :=
  live (fun s =>
    let r := peer s n
    if r.state = .heard ∨ r.state = .live then
      atExpiry r.staleAt (fun _ s => putPeer n { r with state := .stale } s) s
    else s) s

/-- A record at its entry to LOST: both caps absent, the deadlines stopped (R9). -/
def lostRecord (r : PeerRecord) : PeerRecord :=
  { r with
    state := .lost, staleAt := none, lossAt := none
    winchA := r.winchA.map fun w => { w with cap := none }
    winchB := r.winchB.map fun w => { w with cap := none } }

/-- LOSS_DEADLINE of station `n` (R9): a STALE record becomes LOST, and HCU is told (R24). -/
def execLossDeadline (n : Station) (s : State) : Host.Outcome State Fault Refusal :=
  live (fun s =>
    let r := peer s n
    if r.state = .stale then
      atExpiry r.lossAt (fun _ s => vacateIf n (putPeer n (lostRecord r) s)) s
    else s) s

end Sys2Proof.Machine
end

