-- ==== Sys2Proof/Machine/Query.lean ====
section
/-! DEFINITION. TBI's reply builder (R189, R190, R209): the six QUERY commands. -/

namespace Sys2Proof.Machine

open Sys2Proof

/-- The counters in the order of R191. -/
def counterList (k : Counters) : List Nat :=
  [k.received, k.ignored, k.refused, k.defaultRouted, k.crcError, k.lengthError, k.rxOverrun, k.txError, k.coalesced,
    k.lifetimeDrop, k.replyBusy, k.staleCommand, k.staleLeg, k.scanOverrun]

/-- The last-refusal record; absent, its class and sender are all ones (R205; log 18). -/
def putLastRefusal : Option LastRefusal → List Byte
  | none => putU 1 255 ++ putU 1 255 ++ putU 1 0
  | some r => putU 1 r.cls.toNat ++ putU 1 r.sender.toNat ++ putU 1 (reasonCode (some r.reason))

/-- COUNTERS (R209). -/
def pageCounters (s : State) : List Byte :=
  (counterList s.tbi.counters).flatMap (putU 2) ++ putLastRefusal s.tbi.lastRefusal

/-- The trip record; absent, its cause is 0 and its origin all ones (R205, R209; log 18). -/
def putTripRecord : Option TripRecord → List Byte
  | none => putU 1 0 ++ putU 1 255 ++ putU 1 0
  | some r => putU 1 (causeCode r.cause) ++ putU 1 r.origin.toNat ++ putU 1 (optWinchCode r.winch)

/-- The winches of PARTED and TAKEUP_FAILED (R209). -/
def winchByte (l : Latched) : Nat :=
  l.partedA.toNat + 2 * l.partedB.toNat + 4 * l.takeupFailedA.toNat + 8 * l.takeupFailedB.toNat

/-- ALARMS (R209). The trip latch byte is 1 for set and 0 for clear (log 42). -/
def pageAlarms (s : State) : List Byte :=
  putU 4 (alarmMask s).toNat ++ putU 1 (winchByte s.tau.latched) ++ putU 1 s.tau.latch.toNat
    ++ putTripRecord s.tau.record

/-- The record of PEER n that this station shows: ABSENT for its own number and outside 1..30 (R20). -/
def peerView (s : State) (n : Nat) : PeerRecord :=
  if 1 ≤ n ∧ n ≤ 30 ∧ n ≠ s.sc.number.toNat then peer s (BitVec.ofNat 5 n) else recordAbsent

/-- The age of a record in ms, saturating at 65535; 65535 in ABSENT (R20). -/
def ageOf (now : Nat) (r : PeerRecord) : Nat :=
  match r.state, r.core with
  | .absent, _ | _, none => 65535
  | _, some c => min 65535 ((now - c.lastStatus) / 1000)

/-- The core of a record (R209). -/
def putCore (c : PeerCore) : List Byte :=
  putU 1 (stationCode c.reported) ++ putU 1 (fittedCode c.fitted) ++ putU 1 c.period ++ putU 4 c.alarms.toNat

/-- A commissioning part (R209). -/
def putComm (c : CommPart) : List Byte :=
  putU 1 c.accepted.toNat ++ putU 1 (blockCode c.block) ++ putU 1 (reasonCode c.reason)

/-- PEER n, pages 0 to 2 (R209). -/
def pagePeer (s : State) (n page : Nat) : List Byte :=
  let r := peerView s n
  match page with
  | 0 =>
    putU 1 (r.core.isSome.toNat + 2 * r.engine.isSome.toNat + 4 * r.rudder.isSome.toNat)
      ++ putU 1 (peerStateCode r.state) ++ putU 2 (ageOf s.now r) ++ putPart putCore r.core
      ++ putPart putEngine r.engine ++ putPart putRudder r.rudder
  | 1 =>
    putU 1 (r.winchA.isSome.toNat + 2 * r.winchB.isSome.toNat + 4 * r.helm.isSome.toNat
        + 8 * r.commissioning.isSome.toNat)
      ++ putPart putWinch r.winchA ++ putPart putWinch r.winchB ++ putPart putHelm r.helm
      ++ putPart putComm r.commissioning
  | _ => putU 1 r.account.isSome.toNat ++ putPart putAccount r.account

/-- A closed-leg record (R209). -/
def putClosed (r : ClosedLeg) : List Byte :=
  putU 2 r.leg.toNat ++ putS 4 r.consumed ++ putU 4 r.fill ++ putOptU 4 r.vOpen ++ putOptU 4 r.vClose
    ++ putOptS 4 r.d ++ putU 1 (flagsCode r.flags)

/-- The closed-leg record at position i counted from the newest; none without ENGINE fitted (R130). -/
def closedLegAt (s : State) (i : Nat) : Option ClosedLeg :=
  if s.sc.fitted.engine ∧ i ≤ 3 then s.fau.kept.closed.reverse[i]? else none

/-- LEG i (R130, R209). -/
def pageLeg (s : State) (i : Nat) : List Byte := putPart putClosed (closedLegAt s i)

/-- The accounts of the open leg's number (R131). -/
def sameLeg (s : State) : List Account := (accountSet s).filter fun a => a.leg == s.fau.kept.leg

/-- The summed litres (R131). -/
def convoySum (s : State) : Int := consumedL s.fau.kept + ((sameLeg s).map (·.consumed)).sum

/-- A sum in its 32-bit field; the spec states no bytes for one that the field cannot hold (log 34). -/
def putSum (v : Int) : List Byte :=
  if -2147483648 ≤ v ∧ v ≤ 2147483647 then putS 4 v else putU 4 (Config.wideSum v).toNat

/-- CONVOY_FUEL (R131, R209). Without ENGINE the leg is absent, and its two bytes are free (log 18). -/
def pageConvoyFuel (s : State) : List Byte :=
  if s.sc.fitted.engine then
    putU 1 1 ++ putU 2 s.fau.kept.leg.toNat ++ putSum (convoySum s) ++ putU 1 (1 + (sameLeg s).length)
  else putU 1 0 ++ putU 2 (Config.absentLeg s.freeSeq).toNat ++ putS 4 0 ++ putU 1 0

/-- COMMISSION (R209). The lock byte is 1 for set and 0 for clear (log 42). -/
def pageCommission (s : State) : List Byte :=
  putU 1 (acceptedMask s.sc).toNat ++ putU 1 s.sc.lock.toNat
    ++ putU 1 (blockCode (s.sc.lastRefusal.bind (·.block))) ++ putU 1 (reasonCode (s.sc.lastRefusal.map (·.reason)))

/-- The page count of a subject (R209). -/
def pageCount : Subject → Nat
  | .peer => 3
  | .counters | .alarms | .leg | .convoyFuel | .commission => 1

/-- The contents of a page of a subject (R190). -/
def pageOf (s : State) (x : Subject) (arg page : Nat) : List Byte :=
  match x with
  | .counters => pageCounters s
  | .alarms => pageAlarms s
  | .peer => pagePeer s arg page
  | .leg => pageLeg s arg
  | .convoyFuel => pageConvoyFuel s
  | .commission => pageCommission s

/-- A REPLY's payload: five leading bytes, then the contents unless the page lies beyond the count (R189, R209). -/
def replyPayload (s : State) (x : Subject) (f : Frame) : List Byte :=
  let arg := getU 1 2 f.payload
  let page := getU 1 3 f.payload
  putU 1 f.sender.toNat ++ putU 1 (getU 1 1 f.payload) ++ putU 1 arg ++ putU 1 page ++ putU 1 (pageCount x)
    ++ (if page < pageCount x then pageOf s x arg page else [])

/-- A REPLY joins the queue at its newest end, lifetime 1000 ms (R178, R189). -/
def queueReply (payload : List Byte) (s : State) : State :=
  { s with
    tbi :=
      { s.tbi with
        replies := s.tbi.replies ++ [⟨⟨clsReply, s.sc.number, payload⟩, s.tbi.nextSeq, s.now + ms 1000⟩]
        nextSeq := s.tbi.nextSeq + 1 } }

/-- The value counter is stepped where a reply has used a free value (log 27). -/
def usedFree (x : Subject) (s : State) : State :=
  if x = .convoyFuel ∧ s.sc.fitted.engine = false then { s with freeSeq := s.freeSeq + 1 } else s

/-- The reply builder takes an admitted QUERY (R189). -/
def ownQuery (x : Subject) (f : Frame) (s : State) : State :=
  if getU 1 0 f.payload ≠ s.sc.number.toNat then s
  else if 4 ≤ s.tbi.replies.length then count .replyBusy s
  else usedFree x (queueReply (replyPayload s x f) s)

/-- QUERY COUNTERS. -/
def execQueryCounters (s : State) : Host.Outcome State Fault Refusal :=
  live (takeFrame (ofSubject .counters) (ownQuery .counters)) s

/-- QUERY ALARMS (R147). -/
def execQueryAlarms (s : State) : Host.Outcome State Fault Refusal :=
  live (takeFrame (ofSubject .alarms) (ownQuery .alarms)) s

/-- QUERY PEER (R20). -/
def execQueryPeer (s : State) : Host.Outcome State Fault Refusal :=
  live (takeFrame (ofSubject .peer) (ownQuery .peer)) s

/-- QUERY LEG (R130). -/
def execQueryLeg (s : State) : Host.Outcome State Fault Refusal :=
  live (takeFrame (ofSubject .leg) (ownQuery .leg)) s

/-- QUERY CONVOY_FUEL (R131). -/
def execQueryConvoyFuel (s : State) : Host.Outcome State Fault Refusal :=
  live (takeFrame (ofSubject .convoyFuel) (ownQuery .convoyFuel)) s

/-- QUERY COMMISSION (R190). -/
def execQueryCommission (s : State) : Host.Outcome State Fault Refusal :=
  live (takeFrame (ofSubject .commission) (ownQuery .commission)) s

end Sys2Proof.Machine
end

