-- ==== Sys2Proof/Machine/Sensing.lean ====
section
/-! DEFINITION. SSQ (chapter 8): SCAN_TRIGGER, PULSE_EDGE, CONVERSION_END, INTERRUPTED_CONVERSION_END. -/

namespace Sys2Proof.Machine

open Sys2Proof

/-! ### Channels (R149) -/

/-- Whether a channel's machinery is fitted. -/
def channelFitted (f : Fitted) : Channel → Bool
  | .l1 | .l2 => f.helm
  | .rudder => f.rudder
  | .tensionA => f.winchA
  | .tensionB => f.winchB
  | .level | .fuelTemp => f.engine

/-- The channels in their order of conversion. -/
def allChannels : List Channel := [.l1, .l2, .rudder, .tensionA, .tensionB, .level, .fuelTemp]

/-- A channel's place in the order. -/
def channelRank : Channel → Nat
  | .l1 => 0 | .l2 => 1 | .rudder => 2 | .tensionA => 3 | .tensionB => 4 | .level => 5 | .fuelTemp => 6

/-- The first fitted channel at or after a place of the order (R153). -/
def channelFrom (f : Fitted) (i : Nat) : Option Channel :=
  allChannels.find? fun c => channelFitted f c && decide (i ≤ channelRank c)

/-- A channel's record. -/
def channelOf (x : Channels) : Channel → ChannelRec
  | .l1 => x.l1
  | .l2 => x.l2
  | .rudder => x.rudder
  | .tensionA => x.tensionA
  | .tensionB => x.tensionB
  | .level => x.level
  | .fuelTemp => x.fuelTemp

/-- A channel's record replaced. -/
def putChannel (x : Channels) (c : Channel) (r : ChannelRec) : Channels :=
  match c with
  | .l1 => { x with l1 := r }
  | .l2 => { x with l2 := r }
  | .rudder => { x with rudder := r }
  | .tensionA => { x with tensionA := r }
  | .tensionB => { x with tensionB := r }
  | .level => { x with level := r }
  | .fuelTemp => { x with fuelTemp := r }

/-! ### Validity, scaling and status (R155, R156, R158) -/

/-- A valid raw value: 205..4000 (R155). -/
def rawValid (raw : Nat) : Bool := decide (205 ≤ raw ∧ raw ≤ 4000)

/-- The figure of a raw value by a calibration pair (R158). -/
def scale (c : CalPair) (raw : Nat) : Int :=
  clampInt (min c.engMin c.engMax) (max c.engMin c.engMax)
    (c.engMin + quot (((raw : Int) - c.rawMin) * (c.engMax - c.engMin)) ((c.rawMax : Int) - c.rawMin))

/-- The figure of a valid sample: scaled, or the raw value for a lever (R155, R158). -/
def figureOf (s : State) (ch : Channel) (raw : Nat) : Int :=
  match ch with
  | .l1 | .l2 => raw
  | .rudder => scale (cfg2 s).rudder raw
  | .tensionA => scale (cfg3 s).tensionA raw
  | .tensionB => scale (cfg3 s).tensionB raw
  | .level => scale (cfg4 s).level raw
  | .fuelTemp => scale (cfg4 s).fuelTemp raw

/-- A channel GOOD with a new figure, both runs 0 (R156). -/
def goodWith (v : Int) : ChannelRec := ⟨.good, some v, some v, 0, 0⟩

/-- A valid sample with its figure (R156). -/
def validSample (v : Int) (r : ChannelRec) : ChannelRec :=
  match r.status with
  | .noData | .good | .suspect => goodWith v
  | .fault => if 10 ≤ r.validRun + 1 then goodWith v else { r with validRun := r.validRun + 1 }

/-- An invalid sample (R156). -/
def invalidSample (r : ChannelRec) : ChannelRec :=
  match r.status with
  | .noData | .suspect =>
    if 5 ≤ r.invalidRun + 1 then { r with status := .fault, value := none, invalidRun := 0, validRun := 0 }
    else { r with invalidRun := r.invalidRun + 1 }
  | .good => { r with status := .suspect, value := r.lastGood, invalidRun := 1 }
  | .fault => { r with validRun := 0 }

/-- The record of a channel after its conversion (R155, R156). -/
def channelStep (s : State) (ch : Channel) (raw : Nat) : ChannelRec :=
  let r := channelOf s.ssq.channels ch
  if rawValid raw then validSample (figureOf s ch raw) r else invalidSample r

/-! ### The scan (R151 to R154, R160, R161) -/

/-- What the sample set carries for a channel (R157). -/
def readingOf (r : ChannelRec) : Reading := ⟨r.status, r.value⟩

/-- The engine speed of a latched SPEED count (R159), free with teeth of 0 (log 37); a station without ENGINE has no SPEED
channel (R149). -/
def speedOf (s : State) : Nat :=
  if s.sc.fitted.engine then (perFigure .rpm (s.ssq.latched.speed * 600 : Nat) (cfg1 s).teeth).toNat else 0

/-- The sample set as it stands, with the discrete inputs of the fitted machinery (R157, R159, R160). -/
def sampleSet (s : State) (pins : ScanPins) : SampleSet :=
  let x := s.ssq.channels
  let f := s.sc.fitted
  { l1 := readingOf x.l1, l2 := readingOf x.l2, rudder := readingOf x.rudder, tensionA := readingOf x.tensionA
    tensionB := readingOf x.tensionB, level := readingOf x.level, fuelTemp := readingOf x.fuelTemp
    rpm := speedOf s
    counts := s.ssq.latched
    pins := ⟨f.helm && pins.take, f.helm && pins.seize, f.helm && pins.modeSel, pins.tripIn⟩
    steerStop := f.rudder && s.pins.steerStop
    portLim := f.rudder && s.pins.portLim
    stbdLim := f.rudder && s.pins.stbdLim }

/-- The units that a sample set is delivered to (R161). -/
def deliveries (f : Fitted) : Due := ⟨f.helm, f.engine, f.rudder, f.winchA || f.winchB, f.engine, true⟩

/-- The scan completion: the sample set built and delivered, the scan state WAITING (R153, R161). -/
def completeScan (pins : ScanPins) (s : State) : State :=
  { s with
    ssq := { s.ssq with scan := .waiting, sample := some (sampleSet s pins) }, due := deliveries s.sc.fitted }

/-- The next fitted channel is converted, or the scan completes (R153). -/
def convertFrom (i : Nat) (pins : ScanPins) (s : State) : State :=
  match channelFrom s.sc.fitted i with
  | some c => { s with ssq := { s.ssq with scan := .busy c } }
  | none => completeScan pins s

/-- The scan start: every pulse counter latched and restarted in the same instant (R152). -/
def scanStart (s : State) : State :=
  { s with ssq := { s.ssq with latched := s.ssq.pulses, pulses := ⟨0, 0, 0, 0⟩, heldClear := false } }

/-- A trigger by the scan state (R151, R154). -/
def trigger (pins : ScanPins) (s : State) : State :=
  match s.ssq.scan with
  | .waiting => convertFrom 0 pins (scanStart s)
  | .busy _ | .interrupted => count .scanOverrun s
  | .stopped => s

/-- SCAN_TRIGGER (R151): the next trigger falls 100 ms later. -/
def execScanTrigger (pins : ScanPins) (s : State) : Host.Outcome State Fault Refusal :=
  live (fun s =>
    atExpiry s.ssq.controlTimer (fun t s =>
      trigger pins { s with ssq := { s.ssq with controlTimer := some (t + ms 100) } }) s) s

/-- A counter that counts one pulse, holding 4095 (R152). -/
def onePulse (n : Nat) : Nat := min 4095 (n + 1)

/-- One pulse on an input. -/
def countPulse (i : PulseInput) (p : PulseCounts) : PulseCounts :=
  match i with
  | .speed => { p with speed := onePulse p.speed }
  | .supply => { p with supply := onePulse p.supply }
  | .ret => { p with ret := onePulse p.ret }
  | .fill => { p with fill := onePulse p.fill }

/-- PULSE_EDGE (R152): counted on a fitted channel once the first scan start has released the counters. -/
def execPulseEdge (i : PulseInput) (s : State) : Host.Outcome State Fault Refusal :=
  live (fun s =>
    if s.sc.fitted.engine && !s.ssq.heldClear then
      { s with ssq := { s.ssq with pulses := countPulse i s.ssq.pulses } }
    else s) s

/-- CONVERSION_END (R153, R155, R156): the channel in conversion takes its sample, and the scan goes on. -/
def execConversionEnd (raw : BitVec 12) (pins : ScanPins) (s : State) : Host.Outcome State Fault Refusal :=
  live (fun s =>
    match s.ssq.scan with
    | .busy ch =>
      convertFrom (channelRank ch + 1) pins
        { s with ssq := { s.ssq with channels := putChannel s.ssq.channels ch (channelStep s ch raw.toNat) } }
    | .stopped | .waiting | .interrupted => s) s

/-- INTERRUPTED_CONVERSION_END (R154): its raw value is discarded. -/
def execInterruptedConversionEnd (s : State) : Host.Outcome State Fault Refusal :=
  live (fun s =>
    match s.ssq.scan with
    | .interrupted =>
      { s with ssq := { s.ssq with scan := if s.ssq.controlTimer.isSome then .waiting else .stopped } }
    | .stopped | .waiting | .busy _ => s) s

end Sys2Proof.Machine
end

