-- ==== Sys2Proof/Machine/Station.lean ====
section
/-! DEFINITION. SC (chapter 11): the two resets, COMMISSION, HOLD_STATION, RELEASE_STATION, the report and join timers,
and SUPPLY_FAILURE. -/

namespace Sys2Proof.Machine

open Sys2Proof

/-! ### Resets (R204) -/

/-- POWER_ON_RESET with the straps as read (R194, R204, R134). The time base starts again at 0 (log 10). -/
def execPowerOnReset (stn : Station) (fit : Fitted) (s : State) : Host.Outcome State Fault Refusal :=
  .next
    (resetUnits (scReset stn fit) (fauPor fit.engine s.fau) (tauPor fit.engine s.fau) (ssqReset .stopped) 0
      { s with powered := true })

/-- LINE_RESET with the straps as read (R135, R201, R204). -/
def execLineReset (stn : Station) (fit : Fitted) (s : State) : Host.Outcome State Fault Refusal :=
  live (fun s =>
    let s' := resetUnits (scLineReset stn fit s.sc) (fauReset s.fau.kept s.fau.check) tauReset
      (ssqReset (scanLineReset s.ssq.scan)) s.now s
    if joinsAtOnce s'.sc then enterJoining s' else s') s

/-! ### Commissioning (R199, R200) -/

/-- How many parts a block has (R199). -/
def partCount : Block → Nat
  | .p1 | .p2 | .p5 => 1
  | .p3 | .p4 => 2

/-- A staged part's bytes. -/
def stagedPart (c : Sc) (b : Block) (i : Nat) : Option (List Byte) :=
  (c.staging.find? fun x => x.block == b && x.part == i).map (·.bytes)

/-- The bytes of a staged part; no bytes where it is not staged. -/
def partBytes (c : Sc) (b : Block) (i : Nat) : List Byte := (stagedPart c b i).getD []

/-- Whether every part of a block is staged. -/
def blockReady (c : Sc) (b : Block) : Bool := (List.range (partCount b)).all fun i => (stagedPart c b (i + 1)).isSome

/-- Whether each field of a staged block lies in its range (R200, R210). -/
def blockInRange (c : Sc) : Block → Bool
  | .p1 => p1InRange c.fitted.engine (getP1 (partBytes c .p1 1))
  | .p2 => p2InRange (getU 1 17 (partBytes c .p2 1)) (getP2 (partBytes c .p2 1))
  | .p3 => p3InRange (getP3 (partBytes c .p3 1) (partBytes c .p3 2))
  | .p4 => p4InRange (getP4 (partBytes c .p4 1) (partBytes c .p4 2))
  | .p5 => p5InRange (getP5 (partBytes c .p5 1))

/-- Whether a staged block keeps its orderings (R200). -/
def blockOrdered (c : Sc) : Block → Bool
  | .p1 => p1Ordered c.fitted.engine (getP1 (partBytes c .p1 1))
  | .p2 => p2Ordered (getP2 (partBytes c .p2 1))
  | .p3 => p3Ordered (getP3 (partBytes c .p3 1) (partBytes c .p3 2))
  | .p4 => p4Ordered (getP4 (partBytes c .p4 1) (partBytes c .p4 2))
  | .p5 => p5Ordered (getP5 (partBytes c .p5 1))

/-- The first failure of a staged block, RANGE before ORDER (R200). -/
def blockFailure (c : Sc) (b : Block) : Option Reason :=
  if !blockInRange c b then some .range else if !blockOrdered c b then some .order else none

/-- A block written into the record whole (R200). -/
def writeBlock (c : Sc) : Block → Sc
  | .p1 => { c with p1 := some (getP1 (partBytes c .p1 1)) }
  | .p2 => { c with p2 := some (getP2 (partBytes c .p2 1)) }
  | .p3 => { c with p3 := some (getP3 (partBytes c .p3 1) (partBytes c .p3 2)) }
  | .p4 => { c with p4 := some (getP4 (partBytes c .p4 1) (partBytes c .p4 2)) }
  | .p5 => { c with p5 := some (getP5 (partBytes c .p5 1)) }

/-- A block's staging emptied. -/
def unstage (b : Block) (c : Sc) : Sc := { c with staging := c.staging.filter fun x => x.block != b }

/-- A part staged, replacing an earlier copy of the same part (R200). -/
def stagePart (x : StagedPart) (c : Sc) : Sc :=
  { c with staging := (c.staging.filter fun y => !(y.block == x.block && y.part == x.part)) ++ [x] }

/-- SC's record changed. -/
def onSc (f : Sc → Sc) (s : State) : State := { s with sc := f s.sc }

/-- A refusal of a COMMISSION: REFUSED, TBI's and SC's last refusals (R200). -/
def refuseBlock (f : Frame) (b : Option Block) (r : Reason) (s : State) : State :=
  onSc (fun c => { c with lastRefusal := some ⟨b, r⟩ }) (refuse f r s)

/-- A block that passed every check is written; the complete set locks the record and enters JOINING (R200). -/
def acceptBlock (b : Block) (s : State) : State :=
  let s' := onSc (fun c => unstage b (writeBlock c b)) s
  if setComplete s'.sc then enterJoining (onSc (fun c => { c with lock := true }) s') else s'

/-- A staged block checked whole once every part of it is staged (R200). -/
def checkBlock (f : Frame) (b : Block) (s : State) : State :=
  if blockReady s.sc b then
    match blockFailure s.sc b with
    | some r => onSc (unstage b) (refuseBlock f (some b) r s)
    | none => acceptBlock b s
  else s

/-- A part of a block that is named and neither locked nor refused for its number (R200, rows from the fourth on). -/
def takePart (f : Frame) (b : Block) (s : State) : State :=
  let i := getU 1 1 f.payload
  if blockPresent s.sc b then count .ignored s
  else if !blockRequired s.sc.fitted b then refuseBlock f (some b) .notFitted s
  else if i < 1 ∨ partCount b < i then refuseBlock f (some b) .range s
  else checkBlock f b (onSc (stagePart ⟨b, i, f.payload.drop 2⟩) s)

/-- The block a COMMISSION names, or none of P1..P5 (R200). -/
def namedBlock (f : Frame) : Option Block := (blockOf f.byte0).getD none

/-- SC takes an admitted COMMISSION by the first row that applies (R200). -/
def ownCommission (f : Frame) (s : State) : State :=
  if !validStation s.sc.number then refuseBlock f (namedBlock f) .state s
  else if s.sc.lock then refuseBlock f (namedBlock f) .locked s
  else match namedBlock f with
    | none => refuseBlock f none .range s
    | some b => takePart f b s

/-- COMMISSION (R200). -/
def execCommission (s : State) : Host.Outcome State Fault Refusal :=
  live (takeFrame (ofClass clsCommission) ownCommission) s

/-! ### Hold and release (R202) -/

/-- SC takes an admitted HOLD_STATION. -/
def ownHold (f : Frame) (s : State) : State :=
  if !addressed s (getU 1 1 f.payload) then s
  else if s.hcu.helm = .inCommand then refuse f .holder s
  else enterHold s

/-- HOLD_STATION (R202). -/
def execHoldStation (s : State) : Host.Outcome State Fault Refusal :=
  live (takeFrame (ofKind .holdStation) ownHold) s

/-- SC takes an admitted RELEASE_STATION. -/
def ownRelease (f : Frame) (s : State) : State :=
  if !addressed s (getU 1 1 f.payload) then s
  else if s.sc.station = .hold then leaveHold s
  else refuse f .state s

/-- RELEASE_STATION (R202). -/
def execReleaseStation (s : State) : Host.Outcome State Fault Refusal :=
  live (takeFrame (ofKind .releaseStation) ownRelease) s

/-! ### Timers (R197, R198) -/

/-- REPORT_TIMER_EXPIRY (R197): a STATUS is queued and the timer restarted. -/
def execReportTimerExpiry (s : State) : Host.Outcome State Fault Refusal :=
  live (fun s =>
    atExpiry s.sc.reportTimer (fun t s =>
      queueStatus (onSc (fun c => { c with reportTimer := some (t + ms (statusPeriod s)) }) s)) s) s

/-- JOIN_TIMER_EXPIRY (R198): SC enters RUN. -/
def execJoinTimerExpiry (s : State) : Host.Outcome State Fault Refusal :=
  live (fun s =>
    atExpiry s.sc.joinTimer (fun _ s => enterRun (onSc (fun c => { c with joinTimer := none }) s)) s) s

/-! ### Supply (R133) -/

/-- The retention domain after its contents are lost: a check word that does not match them (R133; log 9). -/
def loseRetention (s : State) : State :=
  let k := Config.lostContents s.freeSeq
  let m := Config.tornMask s.freeSeq
  { s with
    freeSeq := s.freeSeq + 1
    fau := { s.fau with kept := k, check := retentionCrc k ^^^ (if m = 0 then 1 else m) } }

/-- Whether a supply failure loses the retention contents: VBAK is absent too, or an update was cut short (R133). -/
def losesRetention (s : State) (updating vbak : Bool) : Bool :=
  !vbak || (updating && s.powered && s.sc.fitted.engine)

/-- SUPPLY_FAILURE (R133): the outputs go to rest, the line is let go, and the part does no more work until a
power-on reset. `updating`: an update of the retention domain was under way; `vbak`: VBAK is present. -/
def execSupplyFailure (updating vbak : Bool) (s : State) : Host.Outcome State Fault Refusal :=
  let s' := if losesRetention s updating vbak then loseRetention s else s
  .next { s' with powered := false, dch := restDch s'.dch, tbi := { s'.tbi with inflight := none } }

end Sys2Proof.Machine
end

