-- ==== Sys2Proof/Machine/TripAlarm.lean ====
section
/-! DEFINITION. TAU (chapter 7): TRIP, CLEAR_TRIP, ACK_ALARMS, TAU_SCAN_COMPLETION and TRIP_REPEAT_EXPIRY. -/

namespace Sys2Proof.Machine

open Sys2Proof

/-- TAU takes an admitted TRIP: it sets a clear latch; under a set latch it changes nothing (R140). -/
def ownTrip (f : Frame) (s : State) : State :=
  if s.tau.latch then s
  else setLatch ⟨causeOf (getU 1 0 f.payload), f.sender, winchOf (getU 1 1 f.payload)⟩ s

/-- TRIP (R140). -/
def execTrip (s : State) : Host.Outcome State Fault Refusal := live (takeFrame (ofClass clsTrip) ownTrip) s

/-- TAU takes an admitted CLEAR_TRIP addressed to it (R141). -/
def ownClearTrip (f : Frame) (s : State) : State :=
  if !addressed s (getU 1 1 f.payload) then s
  else if !s.tau.latch then s
  else if s.tau.causes ≠ [] then refuse f .causeActive s
  else if (used s).d ≠ 0 then refuse f .demand s
  else { s with tau := { s.tau with latch := false } }

/-- CLEAR_TRIP (R141). -/
def execClearTrip (s : State) : Host.Outcome State Fault Refusal := live (takeFrame (ofKind .clearTrip) ownClearTrip) s

/-- The latched alarms after an acknowledgement with a mask: each named alarm whose condition does not hold is
cleared, per winch for PARTED (R143, R145). -/
def ackLatched (s : State) (mask : Nat) (l : Latched) : Latched :=
  let named (a : Alarm) : Bool := mask.testBit (alarmBit a)
  { engineFault := l.engineFault && !(named .engineFault && s.tsu.cond != .fault)
    gearFault := l.gearFault && !named .gearFault
    steerStop := l.steerStop && !(named .steerStop && !s.pins.steerStop)
    rudderJam := l.rudderJam && !named .rudderJam
    takeupFailedA := l.takeupFailedA && !named .takeupFailed
    takeupFailedB := l.takeupFailedB && !named .takeupFailed
    partedA := l.partedA && !(named .parted && s.cu.a.state != .parted)
    partedB := l.partedB && !(named .parted && s.cu.b.state != .parted)
    fuelDiscrepancy := l.fuelDiscrepancy && !named .fuelDiscrepancy
    accountSaturated := l.accountSaturated && !(named .accountSaturated && !s.fau.kept.flags.saturated)
    accountRestarted := l.accountRestarted && !named .accountRestarted }

/-- TAU takes an admitted ACK_ALARMS addressed to it; STU is told of a clearing of RUDDER_JAM (R145, R81). -/
def ownAck (f : Frame) (s : State) : State :=
  if !addressed s (getU 1 1 f.payload) then s
  else
    let mask := getU 4 2 f.payload
    let s' := onLatched (ackLatched s mask) s
    if s.tau.latched.rudderJam && mask.testBit (alarmBit .rudderJam) then stuAckJam s' else s'

/-- ACK_ALARMS (R145). -/
def execAckAlarms (s : State) : Host.Outcome State Fault Refusal := live (takeFrame (ofKind .ackAlarms) ownAck) s

/-- TAU's scan completion: TRIP_IN sampled in JOINING, RUN and HOLD (R137). -/
def tauScan (m : SampleSet) (s : State) : State :=
  if joined s.sc.station then (if m.pins.tripIn then beginCause .tripIn s else endCause .tripIn s) else s

/-- TAU_SCAN_COMPLETION (R137). -/
def execTauScanCompletion (s : State) : Host.Outcome State Fault Refusal :=
  live (fun s =>
    match s.ssq.sample with
    | some m => if s.due.tau then tauScan m { s with due := { s.due with tau := false } } else s
    | none => s) s

/-- TRIP_REPEAT_EXPIRY (R139): TRIP with the newest own cause, the timer restarted. -/
def execTripRepeatExpiry (s : State) : Host.Outcome State Fault Refusal :=
  live (fun s =>
    match s.tau.causes.getLast? with
    | some c =>
      atExpiry s.tau.repeatTimer (fun t s =>
        queueTrip c { s with tau := { s.tau with repeatTimer := some (t + ms 1000) } }) s
    | none => s) s

end Sys2Proof.Machine
end

