-- ==== Sys2Proof/Machine/Dispatch.lean ====
section
/-! DEFINITION. The meaning of each command: one arm per constructor of Instr, in the order of the table. -/

namespace Sys2Proof.Machine

open Sys2Proof

def exec (i : Instr) (s : State) : Host.Outcome State Fault Refusal :=
  match i with
  | .powerOnReset stn fit => Sys2Proof.Machine.execPowerOnReset stn fit s
  | .lineReset stn fit => Sys2Proof.Machine.execLineReset stn fit s
  | .frameReception bits => Sys2Proof.Machine.execFrameReception bits s
  | .trip => Sys2Proof.Machine.execTrip s
  | .cap => Sys2Proof.Machine.execCap s
  | .commandRequest => Sys2Proof.Machine.execCommandRequest s
  | .commandGrant => Sys2Proof.Machine.execCommandGrant s
  | .commandDecline => Sys2Proof.Machine.execCommandDecline s
  | .commandSeize => Sys2Proof.Machine.execCommandSeize s
  | .clearTrip => Sys2Proof.Machine.execClearTrip s
  | .ackAlarms => Sys2Proof.Machine.execAckAlarms s
  | .holdStation => Sys2Proof.Machine.execHoldStation s
  | .releaseStation => Sys2Proof.Machine.execReleaseStation s
  | .demand => Sys2Proof.Machine.execDemand s
  | .coupleMakeFast => Sys2Proof.Machine.execCoupleMakeFast s
  | .coupleRelease => Sys2Proof.Machine.execCoupleRelease s
  | .status => Sys2Proof.Machine.execStatus s
  | .leg => Sys2Proof.Machine.execLeg s
  | .account => Sys2Proof.Machine.execAccount s
  | .commission => Sys2Proof.Machine.execCommission s
  | .queryCounters => Sys2Proof.Machine.execQueryCounters s
  | .queryAlarms => Sys2Proof.Machine.execQueryAlarms s
  | .queryPeer => Sys2Proof.Machine.execQueryPeer s
  | .queryLeg => Sys2Proof.Machine.execQueryLeg s
  | .queryConvoyFuel => Sys2Proof.Machine.execQueryConvoyFuel s
  | .queryCommission => Sys2Proof.Machine.execQueryCommission s
  | .reply => Sys2Proof.Machine.execReply s
  | .unknownClass => Sys2Proof.Machine.execUnknownClass s
  | .lineIdle => Sys2Proof.Machine.execLineIdle s
  | .arbitrationLoss => Sys2Proof.Machine.execArbitrationLoss s
  | .readbackError => Sys2Proof.Machine.execReadbackError s
  | .transmissionComplete => Sys2Proof.Machine.execTransmissionComplete s
  | .muteTimerExpiry => Sys2Proof.Machine.execMuteTimerExpiry s
  | .frameLifetimeExpiry slot => Sys2Proof.Machine.execFrameLifetimeExpiry slot s
  | .reportTimerExpiry => Sys2Proof.Machine.execReportTimerExpiry s
  | .joinTimerExpiry => Sys2Proof.Machine.execJoinTimerExpiry s
  | .scanTrigger pins => Sys2Proof.Machine.execScanTrigger pins s
  | .pulseEdge input => Sys2Proof.Machine.execPulseEdge input s
  | .conversionEnd raw pins => Sys2Proof.Machine.execConversionEnd raw pins s
  | .interruptedConversionEnd => Sys2Proof.Machine.execInterruptedConversionEnd s
  | .hcuScanCompletion => Sys2Proof.Machine.execHcuScanCompletion s
  | .tsuScanCompletion => Sys2Proof.Machine.execTsuScanCompletion s
  | .stuScanCompletion => Sys2Proof.Machine.execStuScanCompletion s
  | .cuScanCompletion => Sys2Proof.Machine.execCuScanCompletion s
  | .fauScanCompletion => Sys2Proof.Machine.execFauScanCompletion s
  | .tauScanCompletion => Sys2Proof.Machine.execTauScanCompletion s
  | .requestTimerExpiry => Sys2Proof.Machine.execRequestTimerExpiry s
  | .demandTimerExpiry => Sys2Proof.Machine.execDemandTimerExpiry s
  | .helmLossTimerExpiry => Sys2Proof.Machine.execHelmLossTimerExpiry s
  | .staleDeadline n => Sys2Proof.Machine.execStaleDeadline n s
  | .lossDeadline n => Sys2Proof.Machine.execLossDeadline n s
  | .rundownTimeout => Sys2Proof.Machine.execRundownTimeout s
  | .dwellExpiry => Sys2Proof.Machine.execDwellExpiry s
  | .settleExpiry => Sys2Proof.Machine.execSettleExpiry s
  | .jamTimerExpiry => Sys2Proof.Machine.execJamTimerExpiry s
  | .steerStopActive => Sys2Proof.Machine.execSteerStopActive s
  | .steerStopInactive => Sys2Proof.Machine.execSteerStopInactive s
  | .endStopActive side => Sys2Proof.Machine.execEndStopActive side s
  | .endStopInactive side => Sys2Proof.Machine.execEndStopInactive side s
  | .takeupLimitExpiry w => Sys2Proof.Machine.execTakeupLimitExpiry w s
  | .renderLimitExpiry w => Sys2Proof.Machine.execRenderLimitExpiry w s
  | .releaseTimeExpiry w => Sys2Proof.Machine.execReleaseTimeExpiry w s
  | .brakeDwellExpiry w => Sys2Proof.Machine.execBrakeDwellExpiry w s
  | .capRepeatExpiry w => Sys2Proof.Machine.execCapRepeatExpiry w s
  | .accountTimerExpiry => Sys2Proof.Machine.execAccountTimerExpiry s
  | .tripRepeatExpiry => Sys2Proof.Machine.execTripRepeatExpiry s
  | .periodBoundary => Sys2Proof.Machine.execPeriodBoundary s
  | .deadTimeExpiry pair => Sys2Proof.Machine.execDeadTimeExpiry pair s
  | .supplyFailure updating vbak => Sys2Proof.Machine.execSupplyFailure updating vbak s

end Sys2Proof.Machine
end

