-- ==== Sys2Proof/Machine/Step.lean ====
section
/-! DEFINITION. One step: the command at the front of the queue is taken, or an idle microsecond passes. -/

namespace Sys2Proof.Machine

open Sys2Proof

/-- One microsecond of the own time base with no command waiting (log 1). -/
def idle (s : State) : State := { s with now := s.now + 1 }

/-- A step: `exec` of the front command on the state with the queue's rest; on an empty queue an idle microsecond. -/
def step (s : State) : Host.Outcome State Fault Refusal :=
  match s.pending with
  | [] => .next (idle s)
  | c :: rest => exec c { s with pending := rest }

/-- The command that a word spells put at the front of the queue; the state unchanged where it spells none. -/
def State.withFetchWord (s : State) (nbits w : Nat) : State :=
  match decodeTableWord nbits w with
  | some c => { s with pending := c :: s.pending }
  | none => s

end Sys2Proof.Machine
end

