-- ==== Sys2Proof/Safety.lean ====
section
/-! DEFINITION. What claims speak of: the parts of the state that a command leaves unchanged, and the conditions that
every step keeps. -/

namespace Sys2Proof.Machine

open Sys2Proof

/-! ### Frames -/

/-- The parts of the state: its fields. -/
inductive StatePart where
  | pending | powered | now | freeSeq | due | pins | sc | tbi | pt | hcu | tsu | stu | cu | fau | tau | ssq | dch
  deriving DecidableEq, Repr

/-- A part is the same in two states. -/
def StatePart.same (s t : State) : StatePart → Prop
  | .pending => t.pending = s.pending
  | .powered => t.powered = s.powered
  | .now => t.now = s.now
  | .freeSeq => t.freeSeq = s.freeSeq
  | .due => t.due = s.due
  | .pins => t.pins = s.pins
  | .sc => t.sc = s.sc
  | .tbi => t.tbi = s.tbi
  | .pt => t.pt = s.pt
  | .hcu => t.hcu = s.hcu
  | .tsu => t.tsu = s.tsu
  | .stu => t.stu = s.stu
  | .cu => t.cu = s.cu
  | .fau => t.fau = s.fau
  | .tau => t.tau = s.tau
  | .ssq => t.ssq = s.ssq
  | .dch => t.dch = s.dch

/-- From `s` to `t` nothing outside the listed parts has changed. -/
def onlyChanges (ps : List StatePart) (s t : State) : Prop := ∀ p : StatePart, p ∉ ps → p.same s t

/-! ### SC -/

/-- The join timer runs in JOINING only (R198). -/
def joiningTimed (s : State) : Prop := s.sc.joinTimer.isSome = true → s.sc.station = .joining

/-! ### DCH -/

/-- At most one output of a pair is active (R165). -/
def pairExclusive (p : Pair) : Prop := p.app1 = 0 ∨ p.app2 = 0

/-- At most one output of each coupled pair is active (R165). -/
def pairsExclusive (s : State) : Prop := pairExclusive s.dch.rud ∧ pairExclusive s.dch.wa ∧ pairExclusive s.dch.wb

/-- Every requested and applied duty lies in 0..1000, and the latest period boundary does not lie ahead (R163, R164). -/
def drivesBounded (s : State) : Prop :=
  s.dch.gov.req ≤ 1000 ∧ s.dch.gov.app ≤ 1000
    ∧ (∀ i : PairId,
        (pairOf s.dch i).req1 ≤ 1000 ∧ (pairOf s.dch i).req2 ≤ 1000 ∧ (pairOf s.dch i).app1 ≤ 1000
          ∧ (pairOf s.dch i).app2 ≤ 1000)
    ∧ 1000 ≤ s.dch.boundaryAt ∧ s.dch.boundaryAt ≤ s.now + 1000

/-- A winch drive output is active only while the winch's brake line is on (R99, R169). -/
def brakesInterlocked (s : State) : Prop :=
  ∀ w : WinchId, activeSide (pairOf s.dch (winchPair w)) ≠ none → (brakeOf s.dch w).line = true

/-- FAULT's request is active exactly while a condition of R148 holds. -/
def faultExact (s : State) : Prop :=
  s.dch.faultReq = true ↔ s.sc.station = .safe ∨ s.tbi.line = .mute ∨ validStation s.sc.number = false

/-! ### TSU -/

/-- The set-point is within A_own, and 0 outside RUN and HOLD, under the trip latch and without ENGINE (R42, R52). -/
def setPointBounded (s : State) : Prop :=
  s.tsu.sp.natAbs ≤ s.tsu.aOwn ∧ (working s.sc.station = false → s.tsu.sp = 0) ∧ (s.tau.latch = true → s.tsu.sp = 0)
    ∧ (s.sc.fitted.engine = false → s.tsu.sp = 0)

/-- The sign a gear state and phase allow the set-point (R54). -/
def gearAllows : GearState → Int → Prop
  | .at .neutral, sp => sp = 0
  | .at .ahead, sp => 0 ≤ sp
  | .at .astern, sp => sp ≤ 0
  | .shifting .rundown .neutral _, sp => sp = 0
  | .shifting .rundown .ahead _, sp => 0 ≤ sp
  | .shifting .rundown .astern _, sp => sp ≤ 0
  | .shifting .dwell _ _, sp => sp = 0
  | .shifting .engage _ _, sp => sp = 0

/-- The set-point has a sign its gear allows, and the gear request is the one the gear state gives (R54, R170); an
unpowered part has its gear request at rest. Without ENGINE the gear is NEUTRAL (R42). -/
def gearConsistent (s : State) : Prop :=
  gearAllows s.tsu.gear s.tsu.sp ∧ (s.powered = true → s.dch.gearReq = gearOutput s.tsu.gear)
    ∧ (s.sc.fitted.engine = false → s.tsu.gear = .at .neutral)

/-! ### STU -/

/-- The responsive flag is set exactly while the rudder state is FOLLOWING in RUN (R70); without RUDDER the state is
UNFITTED (R68); at most one coil is requested (R74). -/
def rudderConsistent (s : State) : Prop :=
  (s.stu.responsive = true ↔ s.stu.state = .following ∧ s.sc.station = .run)
    ∧ (s.sc.fitted.rudder = false → s.stu.state = .unfitted) ∧ (s.stu.reqPort = 0 ∨ s.stu.reqStbd = 0)

/-! ### CU -/

/-- Outside RUN and HOLD both winches are in STANDBY or UNFITTED (R90), and the join timer runs in JOINING only. -/
def winchesAtRest (s : State) : Prop :=
  (working s.sc.station = false →
    ∀ w : WinchId, (winchRec s w).state = .standby ∨ (winchRec s w).state = .unfitted)
    ∧ joiningTimed s

/-- Whether a winch state has an own cap (R101). -/
def capped (st : WinchState) : Prop := st = .overload ∨ st = .rendering ∨ st = .blind

/-- A winch record keeps to the tables of R87, R98 and R101: the own cap is present in OVERLOAD, RENDERING and BLIND
only; the phase, the operation timer and the released brake go with an operation; the dwell timer runs in
BRAKE_DWELL; a duty is requested in DRIVING only. -/
def winchConsistent (x : Winch) : Prop :=
  (x.ownCap.isSome = true ↔ capped x.state)
    ∧ (x.phase.isSome = true ↔ operating x = true)
    ∧ (x.opTimer.isSome = true ↔ operating x = true)
    ∧ (x.dwellTimer.isSome = true ↔ x.phase = some .brakeDwell)
    ∧ (x.brakeReq = .release ↔ operating x = true)
    ∧ (x.phase ≠ some .driving → x.haul = 0 ∧ x.pay = 0)

/-- Both winch records, and their rest outside RUN and HOLD. -/
def couplingConsistent (s : State) : Prop :=
  winchConsistent s.cu.a ∧ winchConsistent s.cu.b ∧ winchesAtRest s

/-! ### TAU -/

/-- The own causes: no duplicates, a parted cause for exactly the winches in PARTED, the repeat timer running while
the list is not empty, and the latch set then (R136 to R139, R141). -/
def causesConsistent (s : State) : Prop :=
  s.tau.causes.Nodup
    ∧ (∀ w : WinchId, OwnCause.parted w ∈ s.tau.causes ↔ (winchRec s w).state = .parted)
    ∧ (s.tau.repeatTimer.isSome = true ↔ s.tau.causes ≠ []) ∧ (s.tau.causes ≠ [] → s.tau.latch = true)
    ∧ winchesAtRest s

/-! ### HCU -/

/-- The station in command is the recorded holder, fitted with HELM, with its DEMAND timer running (R21, R28, R35); a
valid record has a holder and a running helm-loss timer; HELM_LOST goes with an invalid record (R37, R39). -/
def helmConsistent (s : State) : Prop :=
  (s.hcu.helm = .inCommand →
    s.sc.fitted.helm = true ∧ s.hcu.holder = some s.sc.number ∧ s.hcu.demandTimer.isSome = true)
    ∧ (s.hcu.demand.valid = true → s.hcu.holder.isSome = true ∧ s.hcu.helmLossTimer.isSome = true)
    ∧ (s.hcu.helmLost = true → s.hcu.demand.valid = false)
    ∧ (s.due.hcu = true → s.sc.fitted.helm = true)

/-! ### PT -/

/-- The record at the own index stays ABSENT with every field absent (R1). -/
def ownRecordAbsent (s : State) : Prop := validStation s.sc.number = true → peer s s.sc.number = recordAbsent

/-- A record runs its deadlines exactly in HEARD, LIVE and STALE, and holds no cap in LOST (R2, R9). -/
def recordConsistent (r : PeerRecord) : Prop :=
  (r.staleAt.isSome = true ↔ heardPlus r = true) ∧ (r.lossAt.isSome = true ↔ heardPlus r = true)
    ∧ (r.state = .lost → r.winchA.bind (·.cap) = none ∧ r.winchB.bind (·.cap) = none)
    ∧ (r.state = .absent → r = recordAbsent)

/-- Every peer record keeps to R2, R3 and R9. -/
def recordsConsistent (s : State) : Prop := ∀ n : Station, recordConsistent (peer s n)

/-! ### FAU -/

/-- The closed-leg queue holds at most 4 records, in serial order of leg number, each preceding the open leg (R127). -/
def legsOrdered (k : Retained) : Prop :=
  k.closed.length ≤ 4 ∧ (∀ x ∈ k.closed, precedes x.leg k.leg = true)
    ∧ k.closed.Pairwise fun x y => precedes x.leg y.leg = true

/-- The ranges of the accumulators and residues (R110). -/
def accountBounded (k : Retained) : Prop :=
  k.accC.natAbs ≤ 549755813887 ∧ k.resC.natAbs ≤ 9999 ∧ k.accF ≤ 549755813887 ∧ k.resF ≤ 9999

/-- The ring, the filtered level with V_now, and the reconciliation count (R110, R119). -/
def levelConsistent (f : Fau) : Prop :=
  f.ring.length ≤ 16 ∧ (f.level.isSome = true ↔ f.ring.length = 16) ∧ (f.vNow.isSome = true ↔ f.ring.length = 16)
    ∧ f.recon ≤ 2

/-- The commands that may lose the retention contents (R133). -/
def lossOfRetention (s : State) : Prop :=
  ∃ u v rest, s.pending = Instr.supplyFailure u v :: rest ∧ losesRetention s u v = true

/-! ### SSQ -/

/-- A delivery waits only at a unit whose machinery is fitted (R161; log 24). -/
def deliveriesFitted (s : State) : Prop :=
  (s.due.hcu = true → s.sc.fitted.helm = true) ∧ (s.due.tsu = true → s.sc.fitted.engine = true)
    ∧ (s.due.stu = true → s.sc.fitted.rudder = true)
    ∧ (s.due.cu = true → s.sc.fitted.winchA = true ∨ s.sc.fitted.winchB = true)
    ∧ (s.due.fau = true → s.sc.fitted.engine = true)

/-- Counters within 0..4095, and 0 while held clear or without ENGINE (R149, R150, R152). -/
def pulsesBounded (s : State) : Prop :=
  (∀ n ∈ [s.ssq.pulses.speed, s.ssq.pulses.supply, s.ssq.pulses.ret, s.ssq.pulses.fill], n ≤ 4095)
    ∧ (s.ssq.heldClear = true ∨ s.sc.fitted.engine = false → s.ssq.pulses = countsZero)

/-- A channel record carries a value exactly in GOOD and SUSPECT, the last good one, with its runs in range
(R150, R156, R157). -/
def channelConsistent (r : ChannelRec) : Prop :=
  (r.value.isSome = true ↔ r.status = .good ∨ r.status = .suspect) ∧ (r.value.isSome = true → r.value = r.lastGood)
    ∧ r.invalidRun ≤ 5 ∧ r.validRun ≤ 10

/-- Every channel record keeps to R150, R156 and R157. -/
def channelsConsistent (s : State) : Prop := ∀ c : Channel, channelConsistent (channelOf s.ssq.channels c)

/-! ### TBI -/

/-- The line counters within 0..65535 (R191). -/
def countersBounded (s : State) : Prop := ∀ n ∈ counterList s.tbi.counters, n ≤ 65535

/-- The two queues within their depth; the abort count within 0..8, and 8 or a frame in flight only where the line
state allows it (R178, R180, R181, R183). -/
def lineConsistent (s : State) : Prop :=
  s.tbi.replies.length ≤ 4 ∧ s.tbi.rxQueue.length ≤ 4 ∧ s.tbi.aborts ≤ 8
    ∧ (s.tbi.aborts = 8 → s.tbi.line ≠ .active)
    ∧ (s.tbi.inflight.isSome = true → s.tbi.line = .active)

/-- The commissioning record and its lock (R195). -/
def sameRecord (c d : Sc) : Prop :=
  d.p1 = c.p1 ∧ d.p2 = c.p2 ∧ d.p3 = c.p3 ∧ d.p4 = c.p4 ∧ d.p5 = c.p5 ∧ d.lock = c.lock

end Sys2Proof.Machine
end

