-- ==== Sys2Proof/Certificates/Slice0/Obligations.lean ====
section
/-! DEFINITION. The statements for the provers, with the few words they share. -/

namespace Sys2Proof.Machine

open Sys2Proof

/-- The oldest waiting frame is `f`, and admission admits it (R183, R184). -/
def admits (s : State) (f : Frame) : Prop :=
  s.powered = true ∧ s.tbi.rxQueue.head? = some f ∧ judge s f = .admitted

/-- The state in which the owner of an admitted frame takes it: the frame has left the receive queue (R183) and
RECEIVED has been raised (R184). -/
def taken (s : State) : State := count .received (dequeue s)

/-- The frames that a command of the frame rows takes; no other command takes one (log 3). -/
def frameFor : Instr → Frame → Bool
  | .trip => ofClass clsTrip
  | .cap => ofClass clsCap
  | .commandRequest => ofKind .request
  | .commandGrant => ofKind .grant
  | .commandDecline => ofKind .decline
  | .commandSeize => ofKind .seize
  | .clearTrip => ofKind .clearTrip
  | .ackAlarms => ofKind .ackAlarms
  | .holdStation => ofKind .holdStation
  | .releaseStation => ofKind .releaseStation
  | .demand => ofClass clsDemand
  | .coupleMakeFast => ofAction 1
  | .coupleRelease => ofAction 2
  | .status => ofClass clsStatus
  | .leg => ofClass clsLeg
  | .account => ofClass clsAccount
  | .commission => ofClass clsCommission
  | .queryCounters => ofSubject .counters
  | .queryAlarms => ofSubject .alarms
  | .queryPeer => ofSubject .peer
  | .queryLeg => ofSubject .leg
  | .queryConvoyFuel => ofSubject .convoyFuel
  | .queryCommission => ofSubject .commission
  | .reply => ofClass clsReply
  | .unknownClass => fun f => decide (11 ≤ f.rank)
  | _ => fun _ => false

/-- A transmit slot holds an own frame with a payload and the end of its lifetime (R178). -/
def holdsFrame (t : State) (k : TxSlot) (cls : BitVec 4) (payload : List Byte) (lifeEnd : Nat) : Prop :=
  ∃ n, slotOf t.tbi.slots k = some ⟨⟨cls, t.sc.number, payload⟩, n, lifeEnd⟩

/-- Every output but FAULT at its rest level (R172). -/
def outputsAtRest (t : State) : Prop :=
  t.dch.gov.app = 0 ∧ t.dch.rud.app1 = 0 ∧ t.dch.rud.app2 = 0 ∧ t.dch.wa.app1 = 0 ∧ t.dch.wa.app2 = 0
    ∧ t.dch.wb.app1 = 0 ∧ t.dch.wb.app2 = 0 ∧ t.dch.brakeA.line = false ∧ t.dch.brakeB.line = false
    ∧ outGearAh t = false ∧ outGearAs t = false ∧ outLamp t = false ∧ ∀ w : WinchId, outBrake t w = false

/-- TBI after either reset (R192; order numbers: log 28). -/
def tbiAtReset : Tbi :=
  ⟨.active, 0, none, ⟨none, none, none, none, none, none, none, none⟩, [], none, 0, [],
    ⟨0, 0, 0, 0, 0, 0, 0, 0, 0, 0, 0, 0, 0, 0⟩, none⟩

/-- SSQ's records after either reset, its scan state and control timer apart: the counters held clear, every channel
NO_DATA, no sample set (R150). -/
def sensingAtReset (x : Ssq) : Prop :=
  x.pulses = ⟨0, 0, 0, 0⟩ ∧ x.heldClear = true ∧ x.latched = ⟨0, 0, 0, 0⟩
    ∧ (∀ c : Channel, channelOf x.channels c = ⟨.noData, none, none, 0, 0⟩) ∧ x.sample = none

/-- The units' own state after either reset, before any entry to JOINING (R3, R21, R25, R28, R37, R39, R42, R68, R87,
R136, R150, R163, R192). -/
def unitsAtReset (stn : Station) (fit : Fitted) (t : State) : Prop :=
  t.tbi = tbiAtReset
    ∧ (∀ n : Station, peer t n = ⟨.absent, none, none, none, none, none, none, none, none, none, none⟩)
    ∧ t.hcu.holder = none ∧ t.hcu.epoch = 0 ∧ t.hcu.vacant = false ∧ t.hcu.helm = .standby
    ∧ t.hcu.lastDecline = none ∧ t.hcu.requestTimer = none ∧ t.hcu.demandTimer = none
    ∧ t.hcu.take.state = none ∧ t.hcu.seize.state = none ∧ t.hcu.modeSel.state = none
    ∧ t.hcu.demand = ⟨0, 0, .confined, none, false⟩ ∧ t.hcu.helmLossTimer = none ∧ t.hcu.helmLost = false
    ∧ t.tsu = ⟨0, 0, 0, 0, .at .neutral, none, .normal, 0, 0, 0, 0, 0⟩
    ∧ t.stu = ⟨if fit.rudder then .resting else .unfitted, 0, none, 0, 0, none, false, none⟩
    ∧ (∀ w : WinchId, winchRec t w =
        ⟨if winchFitted fit w then .standby else .unfitted, none, 0, none, none, false, 0, none, none, none,
          .engage, 0, 0, none⟩)
    ∧ t.tau.latch = false ∧ t.tau.record = none ∧ t.tau.causes = [] ∧ t.tau.repeatTimer = none
    ∧ t.ssq.controlTimer = none ∧ sensingAtReset t.ssq
    ∧ t.dch.gov = ⟨0, 0⟩ ∧ (∀ i : PairId, pairOf t.dch i = ⟨0, 0, 0, 0, none, none⟩)
    ∧ (∀ w : WinchId, brakeOf t.dch w = ⟨false, false⟩) ∧ t.dch.gearReq = .neutral ∧ t.dch.lampReq = false
    ∧ t.dch.restHold = true ∧ t.dch.faultReq = !validStation stn

/-- The volatile fields of FAU after either reset (R110). -/
def fuelVolatileAtReset (t : State) : Prop :=
  t.fau.ring = [] ∧ t.fau.level = none ∧ t.fau.vNow = none ∧ t.fau.recon = 0 ∧ t.fau.accountTimer = none

/-- The required set of a fitted mask is present in a commissioning record (R199). -/
def recordComplete (fit : Fitted) (c : Sc) : Prop :=
  c.p1.isSome = true ∧ (fit.rudder = true → c.p2.isSome = true)
    ∧ (fit.winchA = true ∨ fit.winchB = true → c.p3.isSome = true)
    ∧ (fit.engine = true → c.p4.isSome = true) ∧ (fit.helm = true → c.p5.isSome = true)

/-- The first STATUS in LISTEN falls number × 31 ms after the entry; none with an invalid number (R197). -/
def listenReportAt (stn : Station) (now : Nat) : Option Nat :=
  if 1 ≤ stn.toNat ∧ stn.toNat ≤ 30 then some (now + 31000 * stn.toNat) else none

/-- The outcome of R184's steps 4 to 7 for one row of R185. -/
def rowVerdict (senderOk stateOk recordOk fieldOk : Bool) (elsewhere noRecord : Verdict) : Verdict :=
  if senderOk = false then .refused .sender
  else if stateOk = false then elsewhere
  else if recordOk = false then noRecord
  else if fieldOk = false then .refused .field
  else .admitted

/-- A record in HEARD, LIVE or STALE (R185, HEARD+). -/
def isHeard (r : PeerRecord) : Bool := r.state == .heard || r.state == .live || r.state == .stale

/-- A claim has precedence over, confirms, or is below the recorded pair (R22, R23). -/
def claimAdopted (h : Hcu) (e : Seq16) (x : Station) : Prop :=
  h.holder = none ∨ ∃ y, h.holder = some y ∧ (succeeds e h.epoch = true ∨ (e = h.epoch ∧ x.toNat < y.toNat))

/-- A claim equal to the recorded pair (R22). -/
def claimConfirms (h : Hcu) (e : Seq16) (x : Station) : Prop := h.holder = some x ∧ e = h.epoch

/-- The effect of an entry to a winch state at the end of an operation: the drive requested off, the brake requested
engaged, no timer of the operation, run count 0 (R87, R99). -/
def operationEnded (t : State) (w : WinchId) (st : WinchState) : Prop :=
  (winchRec t w).state = st ∧ (winchRec t w).phase = none ∧ (winchRec t w).opTimer = none
    ∧ (winchRec t w).dwellTimer = none ∧ (winchRec t w).haul = 0 ∧ (winchRec t w).pay = 0
    ∧ (winchRec t w).brakeReq = .engage ∧ (winchRec t w).runCount = 0
    ∧ (pairOf t.dch (winchPair w)).req1 = 0 ∧ (pairOf t.dch (winchPair w)).req2 = 0
    ∧ ((brakeOf t.dch w).line = false ∨ (brakeOf t.dch w).pending = true)

/-- The effect of the start of an operation at the moment of `s`, with its limit in seconds (R98). -/
def operationBegun (s t : State) (w : WinchId) (st : WinchState) (limit : Nat) : Prop :=
  (winchRec t w).state = st ∧ (winchRec t w).phase = some .brakeDwell
    ∧ (winchRec t w).opTimer = some (s.now + 1000000 * limit)
    ∧ (winchRec t w).dwellTimer = some (s.now + 200000) ∧ (winchRec t w).haul = 0 ∧ (winchRec t w).pay = 0
    ∧ (winchRec t w).brakeReq = .release ∧ (winchRec t w).runCount = 0
    ∧ (pairOf t.dch (winchPair w)).req1 = 0 ∧ (pairOf t.dch (winchPair w)).req2 = 0
    ∧ brakeOf t.dch w = ⟨true, false⟩

/-- The other winch of the station. -/
def otherWinch : WinchId → WinchId
  | .a => .b
  | .b => .a

/-- A pending frame: a slot's, or the oldest reply (R177, R178). -/
def isPending (t : Tbi) (k : TxSlot) (x : TxFrame) : Prop :=
  slotOf t.slots k = some x ∨ (k = .reply ∧ t.replies.head? = some x)

/-- The counters with one more occurrence of IGNORED, staying at 65535 (R191). -/
def ignoredOnce (c : Counters) : Counters := { c with ignored := min 65535 (c.ignored + 1) }

/-- A sender's record meets a row's record condition (R184, step 6). -/
def recordHas (s : State) (n : Station) (part : Fitted → Bool) : Bool := isHeard (peer s n) && part (recordFitted (peer s n))

/-- TBI with an own frame of `life` ms queued into a slot at this moment (R178). -/
def queuedTbi (s : State) (k : TxSlot) (cls : BitVec 4) (payload : List Byte) (life : Nat) : Tbi :=
  queueTbi k ⟨cls, s.sc.number, payload⟩ (s.now + 1000 * life) s.tbi

/-- A winch record after an entry to SAFE (R108). -/
def winchInSafe (x y : Winch) : Prop :=
  y.state = (if x.state = .unfitted then .unfitted else .standby)
    ∧ (x.state ≠ .unfitted →
        y.phase = none ∧ y.runCount = 0 ∧ y.opTimer = none ∧ y.dwellTimer = none ∧ y.capTimer = none
          ∧ y.renderInhibit = false ∧ y.ownCap = none ∧ y.lastCap = none ∧ y.brakeReq = .engage
          ∧ y.haul = 0 ∧ y.pay = 0)

/-- FAU and TBI after the open leg is closed, with GAP where `gap` says so, and leg `n` opened (R126, R127, R129); the
queue is taken to hold at most 4 records before. -/
def legOpened (s t : State) (n : Seq16) (gap : Bool) : Prop :=
  let k := s.fau.kept
  let r : ClosedLeg :=
    ⟨k.leg, Int.tdiv k.accC 100000, k.accF / 100000, k.vOpen, s.fau.vNow, k.d, { k.flags with gap := k.flags.gap || gap }⟩
  let queue := if k.closed.length < 4 then k.closed ++ [r] else k.closed.tail ++ [r]
  t.fau =
      { s.fau with
        kept :=
          ⟨n, 0, 0, 0, 0, s.fau.vNow, none, ⟨false, false, false, false, false, false⟩,
            queue.filter fun x => succeeds n x.leg⟩
        check := retentionCrc t.fau.kept, recon := 0 }
    ∧ t.tbi =
      queuedTbi (taken s) .accountClosed clsAccount
        (putAccount ⟨true, r.leg, r.consumed, r.fill, r.vOpen, r.vClose, r.d, r.flags⟩) 10000

/-- HCU's record on leaving IN_COMMAND for STANDBY at this moment (R33). -/
def leavingHcu (now : Nat) (h : Hcu) : Hcu :=
  { h with
    helm := .standby, demandTimer := none, demand := { h.demand with time := some now }
    helmLossTimer := some (now + 1000000), helmLost := false }

/-- HCU's record on entering IN_COMMAND at this moment, its own DEMAND queued (R35, R36). -/
def enteringHcu (now : Nat) (h : Hcu) : Hcu :=
  { h with
    helm := .inCommand, requestTimer := none, demandTimer := some (now + 100000)
    demand := ⟨h.dOwn, h.rOwn, modeNow h, some now, true⟩, helmLossTimer := some (now + 1000000), helmLost := false
    lastQueued := some ⟨h.dOwn, h.rOwn, modeNow h⟩ }

/-- Payload of the own DEMAND with an epoch: epoch, D, R and mode (R36, R207). -/
def ownDemandBytes (h : Hcu) (e : Seq16) : List Byte :=
  putU 2 e.toNat ++ putS 2 h.dOwn ++ putS 2 h.rOwn ++ putU 1 (modeCode (modeNow h))

/-- What a claim (e, x) on another station does to the holder record and the helm (R22, R23, R31, R33). `byDemand`
says that a DEMAND carries it. -/
def claimEffect (s t : State) (e : Seq16) (x : Station) (byDemand : Bool) : Prop :=
  let h : Hcu :=
    { s.hcu with
      holder := some x, epoch := e, vacant := false
      demand := { s.hcu.demand with valid := s.hcu.demand.valid && byDemand } }
  (claimAdopted s.hcu e x →
      (s.sc.fitted.helm = false ∨ s.hcu.helm = .standby →
          t.hcu = h ∧ t.tbi = (taken s).tbi ∧ t.dch = s.dch)
        ∧ (s.sc.fitted.helm = true → s.hcu.helm = .requesting →
            t.hcu = { h with requestTimer := none, helm := .standby } ∧ t.tbi = (taken s).tbi ∧ t.dch = s.dch)
        ∧ (s.sc.fitted.helm = true → s.hcu.helm = .inCommand →
            t.hcu = leavingHcu s.now h ∧ t.tbi = withdrawDemand (taken s).tbi
              ∧ t.dch = { s.dch with lampReq := false }))
    ∧ (claimConfirms s.hcu e x → t.hcu = { s.hcu with vacant := false } ∧ t.tbi = (taken s).tbi ∧ t.dch = s.dch)
    ∧ (¬ claimAdopted s.hcu e x → ¬ claimConfirms s.hcu e x →
        t.hcu = s.hcu ∧ t.dch = s.dch
          ∧ t.tbi =
              { (taken s).tbi with
                counters :=
                  { (taken s).tbi.counters with
                    staleCommand := min 65535 ((taken s).tbi.counters.staleCommand + 1) } })

/-- A debounced input with one more sample: two equal samples in a row set its state (R25). -/
def debounced (x : Bool) (d : Debounce) : Debounce := ⟨if d.prev = some x then some x else d.state, some x⟩

/-- HCU's record with the inputs of a sample set taken (R25, R26, R27). -/
def helmSampled (s : State) (m : SampleSet) : Hcu :=
  let reads (r : Reading) : Prop := r.status = .good ∨ r.status = .suspect
  { s.hcu with
    take := debounced m.pins.take s.hcu.take, seize := debounced m.pins.seize s.hcu.seize
    modeSel := debounced m.pins.modeSel s.hcu.modeSel
    dOwn := if reads m.l1 ∧ reads m.l2 then leverDemand (cfg5 s).l1 (m.l1.value.getD 0) else 0
    rOwn := if reads m.l1 ∧ reads m.l2 then leverDemand (cfg5 s).l2 (m.l2.value.getD 0) else 0
    leverFault := decide (m.l1.status = .fault ∨ m.l2.status = .fault) }

/-- A rising edge at a scan completion: the debounced state turns from inactive to active (R25). -/
def risingEdge (x : Bool) (d : Debounce) : Prop := d.state = some false ∧ (debounced x d).state = some true

/-- The derate of R43 in RUN or HOLD. -/
def workingDerate (cond : EngineCond) (reserve : Bool) : Nat :=
  match cond with
  | .fault => 0
  | .lagging => 500
  | .normal => if reserve then 700 else 1000

/-- A truncated quotient by an engine figure of P1; its value where that figure is 0 is free (log 37). -/
def perEngineFigure (q : EngineRatio) (a : Int) (b : Nat) : Int := if b = 0 then Config.perZero q a else Int.tdiv a b

/-- The governor duty of R53 in RUN or HOLD; a rated_kW of 0 comes with sp 0 only, and the duty is idle_duty then. -/
def governorDuty (c : P1) (sp : Int) : Nat :=
  if sp = 0 then c.idleDuty
  else
    (max (c.idleDuty : Int)
      (min 1000 (c.idleDuty + Int.tdiv ((1000 - (c.idleDuty : Int)) * sp.natAbs) c.ratedKw))).toNat

/-- The gear outputs of R54, as the gear request names them. -/
def outputOf : GearState → Gear
  | .at g => g
  | .shifting .rundown origin _ => origin
  | .shifting .dwell _ _ => .neutral
  | .shifting .engage _ target => target

/-- The gear of a sign. -/
def signGear (x : Int) : Gear := if 0 < x then .ahead else if x < 0 then .astern else .neutral

/-- TSU's requests at DCH: the governor duty and the gear outputs (R53, R54, R164, R170). -/
def thrustRequests (s t : State) : Prop :=
  t.dch =
    { s.dch with gov := { s.dch.gov with req := min 1000 t.tsu.dutyReq }, gearReq := outputOf t.tsu.gear }

/-- TSU under the trip latch (R63): sp 0, a RUNDOWN abandoned, the other gear states kept. -/
def tripped (x : Tsu) : Tsu :=
  match x.gear with
  | .shifting .rundown origin _ => { x with sp := 0, gear := .at origin, shiftTimer := none }
  | _ => { x with sp := 0 }

/-- The value a reading gives, if its channel is GOOD or SUSPECT (R69, R89, R112, R157). -/
def givenBy (r : Reading) : Option Int := if r.status = .good ∨ r.status = .suspect then r.value else none

/-- STU's record in a state other than FOLLOWING: both coils requested 0, jam watch stopped, not responsive (R69, R70). -/
def atRestIn (st : RudderState) (x : Stu) : Stu :=
  { x with state := st, reqPort := 0, reqStbd := 0, jam := none, responsive := false }

/-- DCH with STU's coil requests (R74, R164). -/
def coilRequests (d : Dch) (port stbd : Nat) : Dch := { d with rud := { d.rud with req1 := min 1000 port, req2 := min 1000 stbd } }

/-- A side of the rudder pair cut at a moment: the duty 0, the side recorded, the dead-time running (R166 to R168). -/
def cutOf (dead : Nat) (side : Side) (p : Pair) : Pair :=
  if activeSide p = some side then { p with app1 := 0, app2 := 0, last := some side, dead := some dead } else p


/-- TBI after an attempt that did not succeed: the frame is pending again, or discarded and counted as its fate has it
(R179). -/
def attemptOver (fl : InFlight) (t : Tbi) : Tbi :=
  let c := t.counters
  match fl.fate with
  | .keep => { t with inflight := none, slots := putSlot t.slots fl.slot (some fl.tx) }
  | .coalesced => { t with inflight := none, counters := { c with coalesced := min 65535 (c.coalesced + 1) } }
  | .dropped =>
    { t with
      inflight := none, counters := { c with lifetimeDrop := min 65535 (c.lifetimeDrop + 1) }
      replies := if fl.slot = .reply then t.replies.tail else t.replies }
  | .withdrawn => { t with inflight := none }

/-! ### Winches and the trip latch -/

/-- The own cap that R101's table gives a winch state and a tension. -/
def tableCap (s : State) (st : WinchState) (tension : Nat) : Option Nat :=
  let n := (cfg1 s).nominal
  let c := cfg3 s
  let floor := n * c.capFloor / 1000
  match st with
  | .overload =>
    some (max (floor : Int) (min (n : Int)
      (Int.tdiv ((n : Int) * ((c.tTrip : Int) - tension)) ((c.tTrip : Int) - c.tHigh)))).toNat
  | .rendering | .blind => some floor
  | _ => none

/-- Whether R102's table queues a CAP for an own cap against the last published one. -/
def capDiffers (nominal : Nat) : Option Nat → Option Nat → Bool
  | none, none => false
  | some c, some l => decide (nominal / 100 ≤ ((c : Int) - l).natAbs)
  | _, _ => true

/-- A winch's record becomes `x` with its own cap computed by R101 and published where R102's table says so; the other
winch keeps its record. -/
def winchBecomes (s t : State) (w : WinchId) (x : Winch) : Prop :=
  let own := tableCap s x.state x.lastTension
  let news := capDiffers (cfg1 s).nominal own x.lastCap
  winchRec t w =
      { x with
        ownCap := own, lastCap := if news then own else x.lastCap
        capTimer := if news then own.map (fun _ => s.now + 1000000) else x.capTimer }
    ∧ winchRec t (otherWinch w) = winchRec s (otherWinch w)
    ∧ t.tbi =
        (if news then
          queuedTbi s (capSlot w) clsCap (putU 1 (winchCode w) ++ putOptU 2 own ++ putU 2 x.lastTension) 200
         else s.tbi)

/-- A change of winch state with no operation in it. -/
def winchEnters (s t : State) (w : WinchId) (x : Winch) (st : WinchState) : Prop :=
  winchBecomes s t w { x with state := st, runCount := 0, renderInhibit := false } ∧ onlyChanges [.tbi, .cu] s t

/-- The record of a winch whose operation ends in a state (R99). -/
def endedWinch (x : Winch) (st : WinchState) (inhibit : Bool) : Winch :=
  { x with
    state := st, phase := none, runCount := 0, opTimer := none, dwellTimer := none, renderInhibit := inhibit
    haul := 0, pay := 0, brakeReq := .engage }

/-- The requests of a winch whose operation ends: both duties 0, the brake engaged at once with the drive inactive and
pending with the drive active (R99, R164, R169). -/
def endedDch (d : Dch) (w : WinchId) : Dch :=
  let p := pairOf d (winchPair w)
  putBrake (putPair d (winchPair w) { p with req1 := 0, req2 := 0 }) w
    (if p.app1 = 0 ∧ p.app2 = 0 then ⟨false, false⟩ else ⟨(brakeOf d w).line, true⟩)

/-- The end of an operation with entry to a winch state, from the record `x` (R99, R101, R102). -/
def winchEnds (s t : State) (w : WinchId) (x : Winch) (st : WinchState) (inhibit : Bool) : Prop :=
  winchBecomes s t w (endedWinch x st inhibit) ∧ t.dch = endedDch s.dch w ∧ onlyChanges [.tbi, .cu, .dch] s t

/-- The record of a winch whose operation starts, with its limit in seconds (R98). -/
def startedWinch (now : Nat) (x : Winch) (st : WinchState) (limit : Nat) : Winch :=
  { x with
    state := st, phase := some .brakeDwell, runCount := 0, opTimer := some (now + 1000000 * limit)
    dwellTimer := some (now + 200000), renderInhibit := false, haul := 0, pay := 0, brakeReq := .release }

/-- The start of an operation with entry to its winch state, from the record `x` (R98, R169). -/
def winchStarts (s t : State) (w : WinchId) (x : Winch) (st : WinchState) (limit : Nat) : Prop :=
  winchBecomes s t w (startedWinch s.now x st limit)
    ∧ t.dch =
        putBrake (putPair s.dch (winchPair w) { pairOf s.dch (winchPair w) with req1 := 0, req2 := 0 }) w ⟨true, false⟩
    ∧ onlyChanges [.tbi, .cu, .dch] s t

/-- The setting of the trip latch at one winch (R107). -/
def winchTrips (s t : State) (w : WinchId) : Prop :=
  let x := winchRec s w
  (x.state = .takingUp →
      winchEnds s t w x (if (cfg3 s).tLow ≤ x.lastTension then .holding else .slack) false)
    ∧ (x.state = .releasing → winchEnds s t w x .released false)
    ∧ (x.state ≠ .takingUp → x.state ≠ .releasing → t = s)

/-- A setting of the trip latch with a trip record: TSU by R63, then each winch by R107 (R138, R140). -/
def latchSets (s t : State) (r : TripRecord) : Prop :=
  ∃ u v : State, u.tau = { s.tau with latch := true, record := some r }
    ∧ (s.sc.fitted.engine = true →
        u.tsu =
            { tripped s.tsu with
              dutyReq :=
                if s.sc.station = .listen ∨ s.sc.station = .safe then 0 else (cfg1 s).idleDuty }
          ∧ thrustRequests s u)
    ∧ (s.sc.fitted.engine = false → u.tsu = s.tsu ∧ u.dch = s.dch)
    ∧ onlyChanges [.tsu, .tau, .dch] s u ∧ winchTrips u v .a ∧ winchTrips v t .b

/-- The bytes of a TRIP with an own cause (R138, R207). -/
def tripBytes : OwnCause → List Byte
  | .tripIn => putU 1 2 ++ putU 1 0
  | .parted .a => putU 1 1 ++ putU 1 1
  | .parted .b => putU 1 1 ++ putU 1 2

/-- The trip record of an own cause at a station (R138). -/
def ownRecord (own : Station) : OwnCause → TripRecord
  | .tripIn => ⟨.tripIn, own, none⟩
  | .parted w => ⟨.parted, own, some w⟩

/-- The beginning of an own cause: the record, a setting where the latch is clear, the list with the cause as its
newest, the repeat timer and a TRIP (R137, R138). A cause already listed does not begin. -/
def causeBegins (s t : State) (c : OwnCause) : Prop :=
  (c ∈ s.tau.causes → t = s)
    ∧ (c ∉ s.tau.causes →
        ∃ v : State,
          (s.tau.latch = false → latchSets s v (ownRecord s.sc.number c))
            ∧ (s.tau.latch = true → v = { s with tau := { s.tau with record := some (ownRecord s.sc.number c) } })
            ∧ t =
                { v with
                  tau := { v.tau with causes := s.tau.causes ++ [c], repeatTimer := some (s.now + 1000000) }
                  tbi := queuedTbi v .trip clsTrip (tripBytes c) 1000 })

/-- TAU's record after an own cause ends; the last one leaving stops the repeat timer (R137, R139). -/
def causeEnded (x : Tau) (c : OwnCause) : Tau :=
  if c ∈ x.causes then
    { x with causes := x.causes.erase c, repeatTimer := if x.causes.erase c = [] then none else x.repeatTimer }
  else x

/-- A winch parts: its operation ends, PARTED is latched for it, and its cause begins (R96). -/
def winchParts (s t : State) (w : WinchId) (x : Winch) : Prop :=
  ∃ u : State, winchEnds s u w x .parted false
    ∧ causeBegins
        { u with
          tau :=
            { u.tau with
              latched :=
                match w with
                | .a => { u.tau.latched with partedA := true }
                | .b => { u.tau.latched with partedB := true } } }
        t (.parted w)

/-- A winch keeps its state: its record becomes `x`, and nothing else changes. -/
def winchKeeps (s t : State) (w : WinchId) (x : Winch) : Prop :=
  winchRec t w = x ∧ winchRec t (otherWinch w) = winchRec s (otherWinch w) ∧ onlyChanges [.cu] s t

/-- One winch at a scan completion, by the tables and rules R89 to R97. -/
def winchScanned (m : SampleSet) (s t : State) (w : WinchId) : Prop :=
  let r := tensionOf m w
  let old := winchRec s w
  let x : Winch :=
    { old with
      latest := some r, lastTension := match givenBy r with | some v => v.toNat | none => old.lastTension }
  let c := cfg3 s
  (winchFitted s.sc.fitted w = false → t = s)
    ∧ (winchFitted s.sc.fitted w = true → givenBy r = none →
        (old.state = .slack ∨ old.state = .takingUp ∨ old.state = .holding ∨ old.state = .overload
            ∨ old.state = .rendering ∨ old.state = .releasing → winchEnds s t w x .blind false)
          ∧ (old.state = .blind → winchKeeps s t w { x with runCount := 0 })
          ∧ (old.state = .unfitted ∨ old.state = .standby ∨ old.state = .released ∨ old.state = .parted →
              winchKeeps s t w x))
    ∧ (winchFitted s.sc.fitted w = true → ∀ v, givenBy r = some v →
        (old.state = .unfitted ∨ old.state = .standby ∨ old.state = .slack ∨ old.state = .releasing
            ∨ old.state = .released ∨ old.state = .parted → winchKeeps s t w x)
          ∧ (old.state = .takingUp →
              (c.tSet ≤ v → winchEnds s t w x .holding false) ∧ (v < c.tSet → winchKeeps s t w x))
          ∧ (old.state = .holding →
              if v < c.tParted then winchParts s t w x
              else if c.tHigh ≤ v then winchEnters s t w x .overload
              else if v < c.tLow then
                if 4 ≤ old.runCount then winchStarts s t w x .takingUp c.takeupLimit
                else winchKeeps s t w { x with runCount := old.runCount + 1 }
              else winchKeeps s t w { x with runCount := 0 })
          ∧ (old.state = .overload →
              let inhibit := old.renderInhibit && decide ((c.tTrip : Int) ≤ v)
              if v < c.tParted then winchParts s t w x
              else if c.tTrip ≤ v ∧ old.renderInhibit = false then winchStarts s t w x .rendering c.renderLimit
              else if v < (c.tHigh : Int) - c.hysteresis then
                if 9 ≤ old.runCount then winchEnters s t w x .holding
                else
                  winchBecomes s t w { x with runCount := old.runCount + 1, renderInhibit := inhibit }
                    ∧ onlyChanges [.tbi, .cu] s t
              else
                winchBecomes s t w { x with runCount := 0, renderInhibit := inhibit } ∧ onlyChanges [.tbi, .cu] s t)
          ∧ (old.state = .rendering →
              if v < c.tParted then winchParts s t w x
              else if v ≤ c.tSet then winchEnds s t w x .holding false
              else winchKeeps s t w x)
          ∧ (old.state = .blind →
              if r.status ≠ .good then winchKeeps s t w { x with runCount := 0 }
              else if 9 ≤ old.runCount then
                winchEnters s t w x (if c.tLow ≤ v then .holding else .slack)
              else winchKeeps s t w { x with runCount := old.runCount + 1 }))

/-! ### Sensing and drive -/

/-- The sample set of a scan completion: each channel's status and value, the engine speed, the latched counts, and the
discrete inputs of the fitted machinery (R157, R159, R160). -/
def deliveredSet (s : State) (pins : ScanPins) : SampleSet :=
  let r (c : Channel) : Reading := ⟨(channelOf s.ssq.channels c).status, (channelOf s.ssq.channels c).value⟩
  let f := s.sc.fitted
  let rpm := if f.engine then (perEngineFigure .rpm (s.ssq.latched.speed * 600 : Nat) (cfg1 s).teeth).toNat else 0
  ⟨r .l1, r .l2, r .rudder, r .tensionA, r .tensionB, r .level, r .fuelTemp, rpm, s.ssq.latched,
    ⟨f.helm && pins.take, f.helm && pins.seize, f.helm && pins.modeSel, pins.tripIn⟩,
    f.rudder && s.pins.steerStop, f.rudder && s.pins.portLim, f.rudder && s.pins.stbdLim⟩

/-- A scan goes on from a place of R149's order: the first fitted channel there or later is converted, or the scan
completes and the sample set is delivered to the units that read it (R153, R161). -/
def scanGoesOn (s t : State) (place : Nat) (pins : ScanPins) : Prop :=
  let f := s.sc.fitted
  (∀ ch, channelFitted f ch = true → place ≤ channelRank ch →
      (∀ k, channelFitted f k = true → place ≤ channelRank k → channelRank ch ≤ channelRank k) →
      t = { s with ssq := { s.ssq with scan := .busy ch } })
    ∧ ((∀ ch, channelFitted f ch = true → channelRank ch < place) →
        t =
          { s with
            ssq := { s.ssq with scan := .waiting, sample := some (deliveredSet s pins) }
            due := ⟨f.helm, f.engine, f.rudder, f.winchA || f.winchB, f.engine, true⟩ })

/-- The side and duty that two requested duties ask for: the larger one, or none where they are equal (R165). -/
def askedSide (r1 r2 : Nat) : Option (Side × Nat) :=
  if r1 = r2 then none else if r2 < r1 then some (.one, r1) else some (.two, r2)

/-- The duties of a pair driven on one side. -/
def drivenPair (p : Pair) (side : Side) (duty : Nat) : Pair :=
  match side with
  | .one => { p with app1 := duty, app2 := 0 }
  | .two => { p with app1 := 0, app2 := duty }

/-- A pair from `p` to `q` at a period boundary with what its requests ask for; `dead` is the end of a dead-time that
starts there (R165, R166). -/
def pairAtBoundary (dead : Nat) (asked : Option (Side × Nat)) (p q : Pair) : Prop :=
  (∀ a, activeSide p = some a →
      (asked = none → q = { p with app1 := 0, app2 := 0, last := some a, dead := some dead })
        ∧ (∀ b d, asked = some (b, d) → b ≠ a → q = { p with app1 := 0, app2 := 0, last := some a, dead := some dead })
        ∧ (∀ d, asked = some (a, d) → q = drivenPair p a d))
    ∧ (activeSide p = none →
        (asked = none → q = p)
          ∧ (∀ b d, asked = some (b, d) → p.dead = none ∨ p.last = some b ∨ p.last = none → q = drivenPair p b d)
          ∧ (∀ b d a e, asked = some (b, d) → p.dead = some e → p.last = some a → a ≠ b → q = p))

/-- A brake line at a period boundary that leaves its pair as `q`: a pending engagement engages once the drive is
inactive (R169). -/
def brakeAtBoundary (b : Brake) (q : Pair) : Brake :=
  if b.pending = true ∧ q.app1 = 0 ∧ q.app2 = 0 then ⟨false, false⟩ else b

/-! ### The alarm set -/

/-- When an alarm is present (R143): a latched alarm from its latching, a condition alarm while its condition holds (R18,
R27, R39, R61, R97, R109, R120, R136, R162). -/
def alarmHolds (s : State) : Alarm → Prop
  | .helmLost => s.hcu.helmLost = true
  | .leverFault => s.hcu.leverFault = true
  | .engineFault => s.tau.latched.engineFault = true
  | .engineLag => s.tsu.cond = .lagging
  | .gearFault => s.tau.latched.gearFault = true
  | .steerStop => s.tau.latched.steerStop = true
  | .rudderJam => s.tau.latched.rudderJam = true
  | .couplingBlind =>
    (∃ w : WinchId, (winchRec s w).state = .blind)
      ∨ ∃ (n : Station) (w : WinchPart), (peer s n).state = .lost ∧ ((peer s n).winchA = some w ∨ (peer s n).winchB = some w)
          ∧ w.state ≠ .released ∧ w.state ≠ .standby ∧ w.state ≠ .unfitted
  | .takeupFailed => s.tau.latched.takeupFailedA = true ∨ s.tau.latched.takeupFailedB = true
  | .overload => ∃ w : WinchId, (winchRec s w).state = .overload ∨ (winchRec s w).state = .rendering
  | .parted => s.tau.latched.partedA = true ∨ s.tau.latched.partedB = true
  | .tankReserve => ∃ v, s.fau.vNow = some v ∧ v < (cfg4 s).reserveL
  | .fuelDiscrepancy => s.tau.latched.fuelDiscrepancy = true
  | .accountSaturated => s.tau.latched.accountSaturated = true
  | .accountRestarted => s.tau.latched.accountRestarted = true
  | .sensorFault =>
    ∃ m, s.ssq.sample = some m ∧
      ∃ r ∈ [m.l1, m.l2, m.rudder, m.tensionA, m.tensionB, m.level, m.fuelTemp], r.status = .fault
  | .tripLatched => s.tau.latch = true

/-- The bit of an alarm in the alarm mask (R206). -/
def maskBit : Alarm → Nat
  | .helmLost => 0 | .leverFault => 1 | .engineFault => 2 | .engineLag => 3 | .gearFault => 4 | .steerStop => 5
  | .rudderJam => 6 | .couplingBlind => 7 | .takeupFailed => 8 | .overload => 9 | .parted => 10 | .tankReserve => 11
  | .fuelDiscrepancy => 12 | .accountSaturated => 13 | .accountRestarted => 14 | .sensorFault => 15 | .tripLatched => 16

/-! ### Station control -/

/-- A COMMISSION refused with a block, or none of P1..P5, and a reason (R200). -/
def commissionRefused (s : State) (f : Frame) (b : Option Block) (r : Reason) : State :=
  { refuse f r (taken s) with sc := { s.sc with lastRefusal := some ⟨b, r⟩ } }

/-- SC with a part staged in place of an earlier copy (R200). -/
def partStaged (c : Sc) (b : Block) (i : Nat) (bytes : List Byte) : Sc :=
  { c with staging := (c.staging.filter fun y => decide (y.block ≠ b ∨ y.part ≠ i)) ++ [⟨b, i, bytes⟩] }

/-- SC with a block's staging emptied (R200). -/
def stagingEmptied (c : Sc) (b : Block) : Sc := { c with staging := c.staging.filter fun y => decide (y.block ≠ b) }

/-- The own full STATUS: offered power A_own in RUN and 0 elsewhere (R44), set-point and condition (R67); last measured
angle, 0 for none, gain and responsive flag (R70); each winch's state, last tension and own cap (R103); helm state,
epoch of the own holder record and last decline reason (R41; log 39). -/
def stationReport (s : State) : FullStatus :=
  let f := s.sc.fitted
  let winch (w : WinchId) : Option WinchPart :=
    if winchFitted f w then some ⟨(winchRec s w).state, (winchRec s w).lastTension, (winchRec s w).ownCap⟩ else none
  { reported := s.sc.station
    fitted := f
    period := (cfg1 s).period
    alarms := alarmMask s
    engine := if f.engine then some ⟨if s.sc.station = .run then s.tsu.aOwn else 0, s.tsu.sp, s.tsu.cond⟩ else none
    rudder :=
      if f.rudder then
        some ⟨match s.stu.measured with | some v => v | none => 0, (cfg2 s).gain, s.stu.responsive⟩
      else none
    winchA := winch .a
    winchB := winch .b
    helm := if f.helm then some ⟨s.hcu.helm, s.hcu.epoch, s.hcu.lastDecline⟩ else none }

/-- A STATUS is queued over TBI's record `x` as the station then stands, its lifetime one own period (R178, R197). -/
def statusQueued (x : Tbi) (t : State) (now : Nat) : Prop :=
  t.tbi =
    queueTbi .status ⟨clsStatus, t.sc.number, putFullStatus (stationReport t)⟩ (now + 100000 * (cfg1 t).period) x

/-- What TSU does at a change of station state (R43, R52, R53). -/
def thrustAtChange (s t : State) : Prop :=
  let derate :=
    if t.sc.station = .run ∨ t.sc.station = .hold then workingDerate s.tsu.cond (tankReserve s) else 0
  let aOwn := min 8000 ((cfg1 s).ratedKw * derate / 1000)
  let sp := max (-(aOwn : Int)) (min (aOwn : Int) s.tsu.sp)
  (s.sc.fitted.engine = true →
      t.tsu =
        { s.tsu with
          derate := derate, aOwn := aOwn, sp := sp
          dutyReq :=
            if t.sc.station = .run ∨ t.sc.station = .hold then governorDuty (cfg1 s) sp else (cfg1 s).idleDuty })
    ∧ (s.sc.fitted.engine = false → t.tsu = s.tsu)

/-- What STU does at a change of station state (R69, R82, R83). -/
def rudderAtChange (s t : State) : Prop :=
  let free := s.stu.state = .resting ∨ s.stu.state = .following ∨ s.stu.state = .blind
  let sighted := ∀ r, s.stu.latest = some r → givenBy r ≠ none
  (s.sc.fitted.rudder = false → t.stu = s.stu)
    ∧ (s.sc.fitted.rudder = true →
        (¬ free → t.stu.state = s.stu.state)
          ∧ (free → s.pins.steerStop = true → t.stu.state = .stopped)
          ∧ (free → s.pins.steerStop = false → ¬ sighted → t.stu.state = .blind)
          ∧ (free → s.pins.steerStop = false → sighted → t.sc.station = .run → t.stu.state = .following)
          ∧ (free → s.pins.steerStop = false → sighted → t.sc.station = .hold →
              t.stu.state = if (cfg2 s).rest = .centre then .following else .resting)
          ∧ (free → s.pins.steerStop = false → sighted → t.sc.station = .joining → t.stu.state = .resting)
          ∧ t.stu.responsive = decide (t.stu.state = .following ∧ t.sc.station = .run)
          ∧ (free → t.stu.state ≠ .following → t.stu.reqPort = 0 ∧ t.stu.reqStbd = 0 ∧ t.stu.jam = none))

/-- The requests at DCH that TSU and STU make at a change of station state; everything else of DCH stays. -/
def requestsAtChange (s t : State) : Prop :=
  t.dch =
    { s.dch with
      gov := if s.sc.fitted.engine then { s.dch.gov with req := min 1000 t.tsu.dutyReq } else s.dch.gov
      gearReq := if s.sc.fitted.engine then outputOf t.tsu.gear else s.dch.gearReq
      rud :=
        if s.sc.fitted.rudder then
          { s.dch.rud with req1 := min 1000 t.stu.reqPort, req2 := min 1000 t.stu.reqStbd }
        else s.dch.rud }

/-- One winch at the entry to RUN from JOINING, from `s` to `t` (R90): by its latest tension, or BLIND without one. -/
def winchJoins (s t : State) (w : WinchId) : Prop :=
  let tension := (winchRec s w).latest.bind givenBy
  (winchFitted s.sc.fitted w = false → t = s)
    ∧ (winchFitted s.sc.fitted w = true →
        (∀ v, tension = some v →
            winchEnters s t w (winchRec s w) (if (cfg3 s).tLow ≤ v then .holding else .slack))
          ∧ (tension = none → winchEnds s t w (winchRec s w) .blind false))

/-! ### STATUS -/

/-- The figures of a full STATUS as its payload's bytes give them, each clamped to its range; `limit` bounds a cap, and
65535 means none (R186, R208). The parts follow byte 6 in their order, 5 bytes each for those before the helm part. -/
def statusClamped (limit : Nat) (p : List Byte) (x : FullStatus) : Prop :=
  let m := x.fitted
  let size (on : Bool) : Nat := if on then 5 else 0
  let rudderAt := 7 + size m.engine
  let winchAAt := rudderAt + size m.rudder
  let winchBAt := winchAAt + size m.winchA
  let winchRead (i : Nat) (w : WinchPart) : Prop :=
    w.tension = min 4000 (getU 2 (i + 1) p)
      ∧ w.cap = if getU 2 (i + 3) p = 65535 then none else some (min limit (getU 2 (i + 3) p))
  x.period = max 2 (min 10 (getU 1 2 p))
    ∧ (∀ e, x.engine = some e →
        e.power = min 8000 (getU 2 7 p) ∧ e.sp = max (-8000) (min 8000 (getS 2 9 p)))
    ∧ (∀ r, x.rudder = some r →
        r.angle = max (-1800) (min 1800 (getS 2 rudderAt p)) ∧ r.gain = min 1000 (getU 2 (rudderAt + 2) p))
    ∧ (∀ w, x.winchA = some w → winchRead winchAAt w) ∧ (∀ w, x.winchB = some w → winchRead winchBAt w)

/-- A full STATUS with its numeric fields clamped (R186). -/
def clampedStatus (limit : Nat) (r : FullStatus) : FullStatus :=
  let winch (w : WinchPart) : WinchPart := { w with tension := min 4000 w.tension, cap := w.cap.map (min limit) }
  { r with
    period := max 2 (min 10 r.period)
    engine := r.engine.map fun e => { e with power := min 8000 e.power, sp := max (-8000) (min 8000 e.sp) }
    rudder := r.rudder.map fun x => { x with angle := max (-1800) (min 1800 x.angle), gain := min 1000 x.gain }
    winchA := r.winchA.map winch, winchB := r.winchB.map winch }

/-! ### Commissioning blocks -/

/-- A field of a commissioning part: its bytes, its sign, its value and what R210 asks of the value. -/
structure BlockField where
  size   : Nat
  signed : Bool
  value  : Int
  ok     : Prop

/-- An unsigned field with its range. -/
def plainField (size value lo hi : Nat) : BlockField := ⟨size, false, value, lo ≤ value ∧ value ≤ hi⟩

/-- A signed field with its range. -/
def signedField (size : Nat) (value lo hi : Int) : BlockField := ⟨size, true, value, lo ≤ value ∧ value ≤ hi⟩

/-- A field that is checked only where `on` holds (R200). -/
def checkedIf (on : Bool) (x : BlockField) : BlockField := { x with ok := on = true → x.ok }

/-- The bytes of a field (R205). -/
def BlockField.bytes (x : BlockField) : List Byte := if x.signed then putS x.size x.value else putU x.size x.value.toNat

/-- Whether a field's value fits its bytes. -/
def BlockField.fits (x : BlockField) : Prop :=
  if x.signed then -(2 ^ (8 * x.size - 1)) ≤ x.value ∧ x.value < 2 ^ (8 * x.size - 1)
  else 0 ≤ x.value ∧ x.value < 2 ^ (8 * x.size)

/-- The bytes of a part: its fields in their order. -/
def partOf (xs : List BlockField) : List Byte := xs.flatMap BlockField.bytes

/-- A calibration pair (R210); both eng values are signed (log 15). -/
def pairFields (lo hi : Int) (c : CalPair) : List BlockField :=
  [plainField 2 c.rawMin 205 4000, signedField 2 c.engMin lo hi, plainField 2 c.rawMax 205 4000,
    signedField 2 c.engMax lo hi]

/-- The fields of P1; without ENGINE only N and the STATUS period are checked (R200, R210). -/
def p1Fields (engine : Bool) (c : P1) : List BlockField :=
  [plainField 2 c.nominal 100 30000]
    ++ ([plainField 2 c.ratedKw 100 8000, signedField 1 c.side (-1) 1, plainField 2 c.assist 0 500,
          plainField 2 c.openRamp.up 1 8000, plainField 2 c.openRamp.down 1 8000, plainField 2 c.confRamp.up 1 8000,
          plainField 2 c.confRamp.down 1 8000, plainField 2 c.idleDuty 50 400, plainField 2 c.idleRpm 1 6000,
          plainField 2 c.ratedRpm 1 6000, plainField 2 c.stallRpm 1 6000, plainField 2 c.shiftRpm 1 6000,
          plainField 2 c.lagBand 1 2000, plainField 1 c.lagTime 1 30, plainField 1 c.teeth 1 255].map
        (checkedIf engine))
    ++ [plainField 1 c.period 2 10]

/-- The fields of P2; `rest` is the byte of the rest policy (R210). -/
def p2Fields (rest : Nat) (c : P2) : List BlockField :=
  [plainField 2 c.thetaMax 50 450, plainField 2 c.gain 0 1000, ⟨1, true, c.sign, c.sign = -1 ∨ c.sign = 1⟩,
      plainField 2 c.gref 1 30000, plainField 1 c.deadband 1 50, plainField 1 c.kp 1 100,
      plainField 2 c.minDuty 0 1000, plainField 2 c.maxDuty 0 1000, plainField 2 c.jamBand 1 450,
      plainField 2 c.jamLimit 500 10000, plainField 1 rest 1 2, plainField 1 c.deadTime 10 255]
    ++ pairFields (-1800) 1800 c.rudder

/-- The fields of P3, part 1 (R210). -/
def p3Fields (c : P3) : List BlockField :=
  [plainField 2 c.tParted 0 4000, plainField 2 c.tLow 0 4000, plainField 2 c.tSet 0 4000, plainField 2 c.tHigh 0 4000,
    plainField 2 c.tTrip 0 4000, plainField 2 c.hysteresis 1 4000, plainField 2 c.capFloor 0 1000,
    plainField 2 c.takeupDuty 1 1000, plainField 1 c.takeupLimit 1 120, plainField 2 c.renderDuty 1 1000,
    plainField 1 c.renderLimit 1 10, plainField 2 c.releaseDuty 1 1000, plainField 1 c.releaseTime 1 30,
    plainField 1 c.deadTime 10 255]

/-- The fields of P3, part 2 (R210). -/
def p3Pairs (c : P3) : List BlockField := pairFields 0 4000 c.tensionA ++ pairFields 0 4000 c.tensionB

/-- The fields of P4, part 1 (R210). -/
def p4Fields (c : P4) : List BlockField :=
  [plainField 2 c.kSupply 1 65535, plainField 2 c.kReturn 1 65535, plainField 2 c.kFill 1 65535,
      plainField 2 c.depth 100 4000, plainField 3 c.reserveL 0 200000, plainField 2 c.tolFixedL 0 10000,
      plainField 2 c.tolPermille 0 1000]
    ++ pairFields 0 8000 c.level ++ pairFields (-50) 150 c.fuelTemp

/-- The fields of P4, part 2: V0 to V10 (R210). -/
def p4Volumes (c : P4) : List BlockField := c.volumes.map fun v => plainField 3 v 0 200000

/-- The fields of a lever in P5 (R210). -/
def leverFields (c : LeverCal) : List BlockField :=
  [plainField 2 c.rawNeg 205 4000, plainField 2 c.rawNeutral 205 4000, plainField 2 c.rawPos 205 4000,
    plainField 2 c.det 0 1000]

/-- The fields of P5 (R210). -/
def p5Fields (c : P5) : List BlockField := leverFields c.l1 ++ leverFields c.l2 ++ [plainField 2 c.matchBand 10 200]

/-- The ordering of a calibration pair (R200). -/
def pairInOrder (c : CalPair) : Prop := c.rawMin < c.rawMax ∧ c.engMin ≠ c.engMax

/-- The ordering of a lever's points (R200). -/
def leverInOrder (c : LeverCal) : Prop :=
  (c.rawNeg : Int) < (c.rawNeutral : Int) - c.det ∧ c.rawNeutral + c.det < c.rawPos

/-- A block with its parts staged: what is written where it passes, and the reason for which it fails, RANGE before ORDER
(R200). -/
def blockVerdict (c : Sc) (b : Block) (fields : List BlockField) (order : Prop) (written : Sc) : Prop :=
  writeBlock c b = written
    ∧ (blockFailure c b = some .range ↔ ∃ x ∈ fields, ¬ x.ok)
    ∧ (blockFailure c b = some .order ↔ (∀ x ∈ fields, x.ok) ∧ ¬ order)
    ∧ (blockFailure c b = none ↔ (∀ x ∈ fields, x.ok) ∧ order)

/-- What a staged block is written as, and what it is refused for, for each of P1..P5 (R200, R210). -/
def BlocksChecked : Prop :=
  ∀ c : Sc,
    let x1 := getP1 (partBytes c .p1 1)
    let x2 := getP2 (partBytes c .p2 1)
    let x3 := getP3 (partBytes c .p3 1) (partBytes c .p3 2)
    let x4 := getP4 (partBytes c .p4 1) (partBytes c .p4 2)
    let x5 := getP5 (partBytes c .p5 1)
    blockVerdict c .p1 (p1Fields c.fitted.engine x1)
        (c.fitted.engine = true → x1.stallRpm < x1.idleRpm ∧ x1.idleRpm ≤ x1.shiftRpm ∧ x1.shiftRpm < x1.ratedRpm)
        { c with p1 := some x1 }
      ∧ blockVerdict c .p2 (p2Fields (getU 1 17 (partBytes c .p2 1)) x2)
        (x2.minDuty ≤ x2.maxDuty ∧ x2.deadband ≤ x2.jamBand ∧ pairInOrder x2.rudder) { c with p2 := some x2 }
      ∧ blockVerdict c .p3 (p3Fields x3 ++ p3Pairs x3)
        (x3.tParted < x3.tLow ∧ x3.tLow < x3.tSet ∧ x3.tSet < x3.tHigh ∧ x3.tHigh < x3.tTrip
          ∧ x3.hysteresis ≤ x3.tHigh - x3.tLow ∧ pairInOrder x3.tensionA ∧ pairInOrder x3.tensionB)
        { c with p3 := some x3 }
      ∧ blockVerdict c .p4 (p4Fields x4 ++ p4Volumes x4)
        ((∀ i, i < 10 → x4.volumes.getD i 0 ≤ x4.volumes.getD (i + 1) 0) ∧ pairInOrder x4.level
          ∧ pairInOrder x4.fuelTemp)
        { c with p4 := some x4 }
      ∧ blockVerdict c .p5 (p5Fields x5) (leverInOrder x5.l1 ∧ leverInOrder x5.l2) { c with p5 := some x5 }
      ∧ x4.volumes.length = 11

/-- How many parts a block has (R199). -/
def partsOf : Block → Nat
  | .p1 => 1 | .p2 => 1 | .p3 => 2 | .p4 => 2 | .p5 => 1

/-- What SC's staging holds after a part is staged, when a block is ready, and the required set (R199, R200). -/
def StagingKept : Prop :=
  ∀ (c : Sc) (b : Block) (i : Nat) (p : List Byte),
    partBytes (partStaged c b i p) b i = p
      ∧ (∀ b' i', (b', i') ≠ (b, i) → stagedPart (partStaged c b i p) b' i' = stagedPart c b' i')
      ∧ (blockReady c b = true ↔ ∀ k, 1 ≤ k → k ≤ partsOf b → ∃ y ∈ c.staging, y.block = b ∧ y.part = k)
      ∧ (∀ k, stagedPart (stagingEmptied c b) b k = none)
      ∧ partCount b = partsOf b
      ∧ (setComplete c = true ↔ recordComplete c.fitted c)
      ∧ (blockRequired c.fitted b = true ↔
          b = .p1 ∨ (b = .p2 ∧ c.fitted.rudder = true)
            ∨ (b = .p3 ∧ (c.fitted.winchA = true ∨ c.fitted.winchB = true)) ∨ (b = .p4 ∧ c.fitted.engine = true)
            ∨ (b = .p5 ∧ c.fitted.helm = true))

/-! ### Rudder loop -/

/-- STU's record `y` after a scan completion in FOLLOWING that began as `x`, with the measured angle `v` (R71, R72, R74 to
R76, R83): in RUN the angle from R as used and the own and peer gains; in HOLD from R 0 and the peer gains alone, where
the rudder rests once the error is within the deadband. -/
def loopClosed (s : State) (m : SampleSet) (v : Int) (x y : Stu) : Prop :=
  let c := cfg2 s
  let run := s.sc.station = .run
  let angle :=
    if run then commandAngle c (used s).r (compensation c (c.gain + sumGain s))
    else commandAngle c 0 (compensation c (sumGain s))
  let e := angle - v
  let duty := min c.maxDuty (c.minDuty + e.natAbs * c.kp)
  let port := if e < -(c.deadband : Int) ∧ m.portLim = false then duty else 0
  let stbd := if (c.deadband : Int) < e ∧ m.stbdLim = false then duty else 0
  let driven : RudderSide := if stbd ≠ 0 then .stbd else .port
  let fresh : JamWatch := ⟨v, driven, s.now + 1000 * c.jamLimit⟩
  y =
      { x with
        state := if ¬ run ∧ e.natAbs ≤ c.deadband then .resting else .following
        angle := angle, measured := some v, reqPort := port, reqStbd := stbd, jam := y.jam
        responsive := decide run, latest := some m.rudder }
    ∧ ((port = 0 ∧ stbd = 0) ∨ e.natAbs ≤ c.jamBand → y.jam = none)
    ∧ (¬ (port = 0 ∧ stbd = 0) → c.jamBand < e.natAbs →
        (x.jam = none → y.jam = some fresh)
          ∧ ∀ w, x.jam = some w →
              (w.side ≠ driven → y.jam = some fresh)
                ∧ (w.side = driven → (c.deadband : Int) ≤ (if driven = .stbd then v - w.ref else w.ref - v) →
                    y.jam = some fresh)
                ∧ (w.side = driven → (if driven = .stbd then v - w.ref else w.ref - v) < c.deadband →
                    y.jam = some w))
end Sys2Proof.Machine

open Sys2Proof Sys2Proof.Machine

/-! ### Steps -/

/-- A step runs the front command on the state with the queue's rest. -/
def Obligations.StepRunsFrontCommand : Prop :=
  ∀ (c : Instr) (rest : List Instr) (s : State),
    s.pending = c :: rest → step s = exec c { s with pending := rest }

/-- Every command answers a next state in every state and leaves the queue as it is. With no command waiting a step lets
one microsecond pass (log 1), and an unpowered part changes nothing at any command but a power-on reset and a supply
failure (log 23; edges of inputs: log 41); these are the model's choices. -/
def Obligations.EveryCommandCompletes : Prop :=
  (∀ (c : Instr) (s : State), ∃ t, exec c s = .next t ∧ t.pending = s.pending)
    ∧ (∀ s : State, s.pending = [] → step s = .next { s with now := s.now + 1 })
    ∧ ∀ (c : Instr) (s : State), s.powered = false → (∀ n f, c ≠ .powerOnReset n f) → (∀ u v, c ≠ .supplyFailure u v) →
        exec c s = .next s

/-! ### Resets and supply -/

/-- A power-on reset leaves SC cleared in LISTEN (R195), the units at their reset values (R204), and the retention
domain tested at an ENGINE-fitted station: kept, or cleared with RESTARTED and ACCOUNT_RESTARTED (R110, R134, R146).
Model's choices: the time base at 0 (log 10), the levels of the inputs kept (log 6), the reset values of the model's own
fields (logs 21, 28). -/
def Obligations.PowerOnReset : Prop :=
  ∀ (stn : Station) (fit : Fitted) (s : State), ∃ t, exec (.powerOnReset stn fit) s = .next t
    ∧ t.powered = true ∧ t.now = 0 ∧ unitsAtReset stn fit t ∧ fuelVolatileAtReset t ∧ t.ssq.scan = .stopped
    ∧ t.sc = ⟨.listen, stn, fit, none, none, none, none, none, false, [], none, none, listenReportAt stn 0⟩
    ∧ (fit.engine = false ∨ s.fau.check = retentionCrc s.fau.kept →
        t.fau.kept = s.fau.kept ∧ t.fau.check = s.fau.check ∧ t.tau.latched = latchedNone)
    ∧ (fit.engine = true → s.fau.check ≠ retentionCrc s.fau.kept →
        t.fau.kept = ⟨0, 0, 0, 0, 0, none, none, ⟨false, false, true, false, false, false⟩, []⟩
          ∧ t.fau.check = retentionCrc t.fau.kept ∧ t.tau.latched = { latchedNone with accountRestarted := true })
    ∧ t.pending = s.pending ∧ t.pins = s.pins

/-- A line reset that stays in LISTEN keeps the commissioning record, the lock and the last refusal (R195), leaves the
retention contents untested (R135), and sets the units to their reset values (R204). Model's choices: the time base and
the levels of the inputs kept (logs 10, 6), deliveries dropped (log 24), the reset values of the model's own fields (logs
21, 28). -/
def Obligations.LineResetListens : Prop :=
  ∀ (stn : Station) (fit : Fitted) (s : State), s.powered = true →
    ¬ (s.sc.lock = true ∧ validStation stn = true ∧ recordComplete fit s.sc) →
    ∃ t, exec (.lineReset stn fit) s = .next t
      ∧ unitsAtReset stn fit t ∧ fuelVolatileAtReset t ∧ t.fau.kept = s.fau.kept ∧ t.fau.check = s.fau.check
      ∧ t.tau.latched = latchedNone
      ∧ t.sc =
          { s.sc with
            station := .listen, number := stn, fitted := fit, staging := [], joinTimer := none
            reportTimer := listenReportAt stn s.now }
      ∧ t.ssq.scan =
          (match s.ssq.scan with
           | .busy _ | .interrupted => .interrupted
           | .stopped | .waiting => .stopped)
      ∧ onlyChanges [.due, .sc, .tbi, .pt, .hcu, .tsu, .stu, .cu, .fau, .tau, .ssq, .dch] s t

/-- A line reset with the lock set, a valid number and every required block present enters JOINING at once (R201): the
record is kept, the timers of R39, R111, R151, R197 and R198 start, the rest hold is cleared (R172), a kept saturated
leg is reported as ACCOUNT_SATURATED (R111) and an active STEER_STOP input as STEER_STOP (R82), the scan state is WAITING,
or BUSY with a conversion that the reset interrupted (R151, R154), SSQ's records are at their reset values (R150), and the
extra STATUS is queued (R197). Model's choices: the time base runs on (log 10), the levels of the inputs stay (log 6), the
order within the entry (log 12), the epoch in the helm part only (log 39). -/
def Obligations.LineResetJoins : Prop :=
  ∀ (stn : Station) (fit : Fitted) (s : State), s.powered = true →
    s.sc.lock = true → validStation stn = true → recordComplete fit s.sc →
    ∃ t, exec (.lineReset stn fit) s = .next t
      ∧ t.sc =
          { s.sc with
            station := .joining, number := stn, fitted := fit, staging := []
            joinTimer := some (s.now + 1000 * (3 * (cfg1 s).period * 100))
            reportTimer := some (s.now + 1000 * (stn.toNat * (cfg1 s).period * 100 / 32)) }
      ∧ t.dch.restHold = false ∧ t.ssq.controlTimer = some s.now ∧ t.hcu.helmLossTimer = some (s.now + 1000000)
      ∧ t.hcu.helmLost = false ∧ t.hcu.holder = none ∧ t.hcu.demand.valid = false
      ∧ t.tau.latch = false
      ∧ t.tau.latched =
          { latchedNone with
            accountSaturated := fit.engine && s.fau.kept.flags.saturated, steerStop := fit.rudder && s.pins.steerStop }
      ∧ (fit.rudder = true → t.stu.state = if s.pins.steerStop then .stopped else .resting)
      ∧ (∀ n : Station, peer t n = ⟨.absent, none, none, none, none, none, none, none, none, none, none⟩)
      ∧ t.fau.kept = s.fau.kept ∧ t.fau.accountTimer = (if fit.engine then some (s.now + 10000000) else none)
      ∧ (fit.engine = true → t.tsu.sp = 0 ∧ t.dch.gov.req = min 1000 (cfg1 s).idleDuty)
      ∧ statusQueued tbiAtReset t s.now ∧ sensingAtReset t.ssq
      ∧ t.ssq.scan =
          (match s.ssq.scan with
           | .busy _ | .interrupted => .interrupted
           | .stopped | .waiting => .waiting)
      ∧ onlyChanges [.due, .sc, .tbi, .pt, .hcu, .tsu, .stu, .cu, .fau, .tau, .ssq, .dch] s t
      ∧ t.now = s.now ∧ t.pins = s.pins ∧ t.pending = s.pending

/-- A supply failure puts the outputs at rest, FAULT active. An update cut short, or the loss of VBAK, leaves a check
word that does not match, and the next power-on reset at an ENGINE-fitted station clears the domain (R133, R134). The
contents left are free (log 9); otherwise the domain keeps its contents. -/
def Obligations.SupplyFailureLosesOrKeepsRetention : Prop :=
  ∀ (updating vbak : Bool) (s : State), ∃ t, exec (.supplyFailure updating vbak) s = .next t
    ∧ t.powered = false ∧ outputsAtRest t ∧ outFault t = true ∧ t.tbi = { s.tbi with inflight := none }
    ∧ (losesRetention s updating vbak = false → t.fau = s.fau)
    ∧ (vbak = false ∨ (updating = true ∧ s.powered = true ∧ s.sc.fitted.engine = true) →
        t.fau.check ≠ retentionCrc t.fau.kept
          ∧ ∀ (stn : Station) (fit : Fitted), fit.engine = true →
              ∃ u, exec (.powerOnReset stn fit) t = .next u ∧ u.fau.kept = keptCleared
                ∧ u.fau.check = retentionCrc keptCleared ∧ u.tau.latched.accountRestarted = true)
    ∧ onlyChanges [.powered, .freeSeq, .tbi, .fau, .dch] s t

/-! ### The line (chapter 10) -/

/-- A frame of up to 63 bytes is read back from its bits: it passes, or has a length not valid for its class. With
another check word, or cut short anywhere, it is a CRC error (R174, R183, R205). -/
def Obligations.LineCodeRoundTrip : Prop :=
  ∀ f : Frame, f.payload.length ≤ 63 →
    lineCheck (frameBits f) = (if lengthValid f.cls f.payload then .passes f else .lengthError)
      ∧ (∀ w : BitVec 16, w ≠ crcBits (frameBody f) → lineCheck (frameBody f ++ bitsOf 16 w.toNat) = .crcError)
      ∧ (∀ n, n < (frameBits f).length → lineCheck ((frameBits f).take n) = .crcError)

/-- FRAME_RECEPTION counts a frame that fails a line check, queues one that passes while fewer than 4 wait, and
counts RX_OVERRUN for one that passes while 4 wait (R183). -/
def Obligations.FrameReception : Prop :=
  ∀ (bits : List Bool) (s : State), s.powered = true →
    exec (.frameReception bits) s = .next
      { s with
        tbi :=
          match lineCheck bits with
          | .crcError => { s.tbi with counters := { s.tbi.counters with crcError := min 65535 (s.tbi.counters.crcError + 1) } }
          | .lengthError =>
            { s.tbi with counters := { s.tbi.counters with lengthError := min 65535 (s.tbi.counters.lengthError + 1) } }
          | .passes f =>
            if s.tbi.rxQueue.length < 4 then { s.tbi with rxQueue := s.tbi.rxQueue ++ [f] }
            else { s.tbi with counters := { s.tbi.counters with rxOverrun := min 65535 (s.tbi.counters.rxOverrun + 1) } } }

/-- LINE_IDLE at an ACTIVE line with a valid number and nothing in flight starts the pending frame of lowest rank, of
equal ranks the one queued earlier (R176, R177); in every other case nothing starts. -/
def Obligations.LineIdleStartsTheBest : Prop :=
  ∀ s : State, s.powered = true →
    (∀ k x, s.tbi.line = .active → validStation s.sc.number = true → s.tbi.inflight = none → isPending s.tbi k x →
        (∀ k' x', isPending s.tbi k' x' → (k', x') ≠ (k, x) →
          x.frame.rank < x'.frame.rank ∨ (x.frame.rank = x'.frame.rank ∧ x.seq < x'.seq)) →
        exec .lineIdle s = .next
          { s with
            tbi := { s.tbi with slots := putSlot s.tbi.slots k none, inflight := some ⟨k, x, .keep, false⟩ } })
      ∧ (s.tbi.line ≠ .active ∨ validStation s.sc.number = false ∨ s.tbi.inflight ≠ none
            ∨ (∀ k x, ¬ isPending s.tbi k x) →
          exec .lineIdle s = .next s)

/-- The end of an attempt. TRANSMISSION_COMPLETE takes the frame out and sets the abort count to 0. ARBITRATION_LOSS
keeps the frame or discards it as R179 gives. READBACK_ERROR does the same, counts TX_ERROR and the abort, and goes MUTE
for 1000 ms with FAULT active at the eighth abort in a row (R178, R180, R181). -/
def Obligations.AttemptEnds : Prop :=
  ∀ (s : State) (fl : InFlight), s.powered = true → s.tbi.inflight = some fl →
    exec .transmissionComplete s = .next
        { s with
          tbi :=
            { s.tbi with
              inflight := none, aborts := 0
              replies := if fl.slot = .reply then s.tbi.replies.tail else s.tbi.replies } }
      ∧ ∃ t, exec .arbitrationLoss s = .next t ∧ onlyChanges [.tbi] s t
        ∧ t.tbi = attemptOver fl s.tbi
        ∧ ∃ u, exec .readbackError s = .next u ∧ onlyChanges [.tbi, .dch] s u
          ∧ u.tbi =
              { t.tbi with
                counters := { t.tbi.counters with txError := min 65535 (t.tbi.counters.txError + 1) }
                aborts := s.tbi.aborts + 1
                line := if 8 ≤ s.tbi.aborts + 1 then .mute else s.tbi.line
                muteTimer := if 8 ≤ s.tbi.aborts + 1 then some (s.now + 1000000) else s.tbi.muteTimer }
          ∧ u.dch = { s.dch with faultReq := faultWanted u }
          ∧ (8 ≤ s.tbi.aborts + 1 → outFault u = true)

/-- A frame queued into a slot joins it with its lifetime; a pending frame there is replaced and counts COALESCED, and
one in flight from that slot is marked to be discarded when its attempt fails (R178, R179). One that is marked already
keeps its earlier fate (log 14). A withdrawal of the DEMAND slot empties it, marks a DEMAND in flight, whatever its fate
(log 14), and counts nothing (R33, R179). -/
def Obligations.QueuedFrame : Prop :=
  ∀ (k : TxSlot) (f : Frame) (lifeEnd : Nat) (t : Tbi), k ≠ .reply →
    slotOf (queueTbi k f lifeEnd t).slots k = some ⟨f, t.nextSeq, lifeEnd⟩
      ∧ (∀ k', k' ≠ k → slotOf (queueTbi k f lifeEnd t).slots k' = slotOf t.slots k')
      ∧ (queueTbi k f lifeEnd t).counters =
          (if slotOf t.slots k = none then t.counters
           else { t.counters with coalesced := min 65535 (t.counters.coalesced + 1) })
      ∧ (queueTbi k f lifeEnd t).inflight =
          t.inflight.map (fun fl => if fl.slot = k ∧ fl.fate = .keep then { fl with fate := .coalesced } else fl)
      ∧ queueTbi k f lifeEnd t =
          { t with
            slots := (queueTbi k f lifeEnd t).slots, nextSeq := t.nextSeq + 1
            inflight := (queueTbi k f lifeEnd t).inflight, counters := (queueTbi k f lifeEnd t).counters }
      ∧ slotOf (withdrawDemand t).slots .demand = none
      ∧ (∀ k', k' ≠ .demand → slotOf (withdrawDemand t).slots k' = slotOf t.slots k')
      ∧ withdrawDemand t =
          { t with
            slots := (withdrawDemand t).slots
            inflight := t.inflight.map fun fl => if fl.slot = .demand then { fl with fate := .withdrawn } else fl }

/-- The timers of the line. At the end of a lifetime a pending frame, or the oldest waiting reply, is discarded and counts
LIFETIME_DROP (R178); a frame in flight is marked, and discarded only if its attempt fails (R179). Of a pending frame and
one in flight from the same slot, the lifetime that ends first ends. MUTE_TIMER_EXPIRY: ACTIVE again, abort count 0, FAULT
by the station state and the strapped number (R181, R148). The moment of an expiry is log 2; a frame in flight that is
marked already keeps its earlier fate (log 14). -/
def Obligations.LineTimers : Prop :=
  ∀ s : State, s.powered = true →
    let t := s.tbi
    let dropped : Counters := { t.counters with lifetimeDrop := min 65535 (t.counters.lifetimeDrop + 1) }
    let ended (k : TxSlot) : Prop :=
      ∀ fl, t.inflight = some fl → fl.slot = k → fl.lifeOver = true
    (∀ k x, k ≠ .reply → slotOf t.slots k = some x →
        ended k ∨ (∀ fl, t.inflight = some fl → x.lifeEnd < fl.tx.lifeEnd) →
        exec (.frameLifetimeExpiry k) s = .next
          { s with
            now := max s.now x.lifeEnd, tbi := { t with slots := putSlot t.slots k none, counters := dropped } })
      ∧ (∀ x rest, t.replies = x :: rest → (∀ fl, t.inflight = some fl → fl.slot ≠ .reply) →
          exec (.frameLifetimeExpiry .reply) s = .next
            { s with now := max s.now x.lifeEnd, tbi := { t with replies := rest, counters := dropped } })
      ∧ (∀ y x rest fl, t.replies = y :: x :: rest → t.inflight = some fl → fl.slot = .reply →
          fl.lifeOver = true ∨ x.lifeEnd < fl.tx.lifeEnd →
          exec (.frameLifetimeExpiry .reply) s = .next
            { s with now := max s.now x.lifeEnd, tbi := { t with replies := y :: rest, counters := dropped } })
      ∧ (∀ fl, t.inflight = some fl → fl.lifeOver = false →
          (fl.slot ≠ .reply → ∀ x, slotOf t.slots fl.slot = some x → fl.tx.lifeEnd ≤ x.lifeEnd) →
          (fl.slot = .reply → ∀ y x rest, t.replies = y :: x :: rest → fl.tx.lifeEnd ≤ x.lifeEnd) →
          exec (.frameLifetimeExpiry fl.slot) s = .next
            { s with
              now := max s.now fl.tx.lifeEnd
              tbi :=
                { t with
                  inflight := some { fl with lifeOver := true, fate := if fl.fate = .keep then .dropped else fl.fate } } })
      ∧ (∀ d, t.muteTimer = some d →
          exec .muteTimerExpiry s = .next
            { s with
              now := max s.now d
              tbi := { t with line := .active, muteTimer := none, aborts := 0 }
              dch := { s.dch with faultReq := decide (s.sc.station = .safe) || !validStation s.sc.number } })

/-! ### Admission (sections 10.5 to 10.8) -/

/-- Admission of a frame whose sender is not the own number, by the rows of R185 in the order of R184: sender, station
state, sender's record, enumerations (R186). -/
def Obligations.AdmissionTable : Prop :=
  ∀ (s : State) (f : Frame), ¬ (validStation s.sc.number = true ∧ f.sender = s.sc.number) →
    let peers := decide (1 ≤ f.sender.toNat ∧ f.sender.toNat ≤ 30)
    let console := decide (f.sender.toNat = 31)
    let st := s.sc.station
    let inJrh := decide (st = .joining ∨ st = .run ∨ st = .hold)
    let inLjrh := decide (st = .listen ∨ st = .joining ∨ st = .run ∨ st = .hold)
    let byte (i : Nat) : Nat := getU 1 i f.payload
    (f.rank = 0 → judge s f = rowVerdict peers inJrh true true .ignored .ignored)
      ∧ (f.rank = 1 →
          judge s f = rowVerdict peers inJrh (recordHas s f.sender fun m => m.winchA || m.winchB)
            (decide (byte 0 = 1 ∨ byte 0 = 2)) .ignored (.refused .notWinch))
      ∧ (f.rank = 2 → 1 ≤ byte 0 ∧ byte 0 ≤ 4 →
          judge s f = rowVerdict peers inJrh (recordHas s f.sender (·.helm))
            (decide (byte 0 = 3 → byte 2 ≤ 2)) .ignored (.refused .notHelm))
      ∧ (f.rank = 2 → byte 0 = 5 ∨ byte 0 = 8 →
          judge s f = rowVerdict console inJrh true true (.refused .state) .ignored)
      ∧ (f.rank = 2 → byte 0 = 6 →
          judge s f = rowVerdict console (decide (st ≠ .listen)) true true (.refused .state) .ignored)
      ∧ (f.rank = 2 → byte 0 = 7 →
          judge s f = rowVerdict console (decide (st = .run)) true true (.refused .state) .ignored)
      ∧ (f.rank = 2 → byte 0 = 0 ∨ 9 ≤ byte 0 →
          judge s f = if peers && decide (st = .listen ∨ st = .safe) then .ignored else .refused .field)
      ∧ (f.rank = 3 → judge s f = rowVerdict peers inJrh (recordHas s f.sender (·.helm)) true .ignored (.refused .notHelm))
      ∧ (f.rank = 4 →
          judge s f = rowVerdict console (decide (st = .run ∨ st = .hold)) true
            (decide ((byte 1 = 1 ∨ byte 1 = 2) ∧ (byte 2 = 1 ∨ byte 2 = 2))) (.refused .state) .ignored)
      ∧ (f.rank = 5 → judge s f = rowVerdict peers inLjrh true (statusFieldsOk f.payload) .ignored .ignored)
      ∧ (f.rank = 6 → judge s f = rowVerdict console (inJrh && s.sc.fitted.engine) true true .ignored .ignored)
      ∧ (f.rank = 7 →
          judge s f = rowVerdict peers inLjrh (recordHas s f.sender (·.engine)) (decide (byte 0 = 1 ∨ byte 0 = 2))
            .ignored (.refused .notEngine))
      ∧ (f.rank = 8 → judge s f = rowVerdict console (decide (st = .listen)) true true (.refused .locked) .ignored)
      ∧ (f.rank = 9 →
          judge s f = rowVerdict (decide (f.sender.toNat ≠ 0)) (decide (s.tbi.line = .active) && validStation s.sc.number)
            true (decide (1 ≤ byte 1 ∧ byte 1 ≤ 6)) .ignored .ignored)
      ∧ (10 ≤ f.rank → judge s f = .defaultPath)

/-- A frame that its command takes and admission does not admit leaves the queue and is counted, and nothing else
changes: IGNORED, REFUSED with the last-refusal record, or DEFAULT_ROUTED (R187). REPLY and UNKNOWN_CLASS, from any sender
but the own number, end in the default path, which counts and discards them (R188). -/
def Obligations.FramesNotAdmitted : Prop :=
  (∀ (c : Instr) (s : State) (f : Frame), s.powered = true → s.tbi.rxQueue.head? = some f → frameFor c f = true →
      (judge s f = .ignored →
          exec c s = .next
            { s with tbi := { s.tbi with rxQueue := s.tbi.rxQueue.tail, counters := ignoredOnce s.tbi.counters } })
        ∧ (∀ r, judge s f = .refused r →
            exec c s = .next
              { s with
                tbi :=
                  { s.tbi with
                    rxQueue := s.tbi.rxQueue.tail
                    counters := { s.tbi.counters with refused := min 65535 (s.tbi.counters.refused + 1) }
                    lastRefusal := some ⟨f.cls, f.sender, r⟩ } })
        ∧ (judge s f = .defaultPath →
            exec c s = .next
              { s with
                tbi :=
                  { s.tbi with
                    rxQueue := s.tbi.rxQueue.tail
                    counters :=
                      { s.tbi.counters with defaultRouted := min 65535 (s.tbi.counters.defaultRouted + 1) } } }))
    ∧ ∀ (s : State) (f : Frame), s.powered = true → s.tbi.rxQueue.head? = some f →
        ¬ (validStation s.sc.number = true ∧ f.sender = s.sc.number) → 10 ≤ f.rank →
        exec (if f.rank = 10 then .reply else .unknownClass) s = .next
          { s with
            tbi :=
              { s.tbi with
                rxQueue := s.tbi.rxQueue.tail
                counters := { s.tbi.counters with defaultRouted := min 65535 (s.tbi.counters.defaultRouted + 1) } } }

/-- A frame with the own number: in JOINING, RUN or HOLD, unless it is a STATUS reporting LISTEN, it silences the line
and takes the station to SAFE with every output but FAULT at rest; otherwise it is counted IGNORED and nothing more
(R182, R203, R66, R84, R108, R28, R142, R148, R172). A frame in flight stays pending uncounted (R179); one already
overtaken, out of its lifetime or withdrawn ends as R179 has a failed attempt (log 14). A side that drove is then the last
active one (log 32). -/
def Obligations.DuplicateStation : Prop :=
  ∀ (c : Instr) (s : State) (f : Frame), s.powered = true → s.tbi.rxQueue.head? = some f → frameFor c f = true →
    validStation s.sc.number = true → f.sender = s.sc.number →
    let heard := { s.tbi with rxQueue := s.tbi.rxQueue.tail, counters := ignoredOnce s.tbi.counters }
    (¬ (s.sc.station = .joining ∨ s.sc.station = .run ∨ s.sc.station = .hold) ∨ (f.rank = 5 ∧ f.byte0 = 0) →
        exec c s = .next { s with tbi := heard })
      ∧ (s.sc.station = .joining ∨ s.sc.station = .run ∨ s.sc.station = .hold → ¬ (f.rank = 5 ∧ f.byte0 = 0) →
          ∃ t, exec c s = .next t
            ∧ t.sc = { s.sc with station := .safe, joinTimer := none, reportTimer := none }
            ∧ t.tbi.line = .silenced ∧ t.tbi.inflight = none
            ∧ t.tbi =
                { (match s.tbi.inflight with | some fl => attemptOver fl heard | none => heard) with
                  line := .silenced, muteTimer := none }
            ∧ (∀ fl, s.tbi.inflight = some fl → fl.fate = .keep → fl.slot ≠ .reply →
                slotOf t.tbi.slots fl.slot = some fl.tx ∧ t.tbi.counters = ignoredOnce s.tbi.counters)
            ∧ outputsAtRest t ∧ t.dch.restHold = true ∧ outFault t = true
            ∧ (∀ i, (pairOf t.dch i).req1 = 0 ∧ (pairOf t.dch i).req2 = 0 ∧ (pairOf t.dch i).dead = none
                ∧ ((pairOf t.dch i).last =
                    if activeSide (pairOf s.dch i) = none then (pairOf s.dch i).last else activeSide (pairOf s.dch i)))
            ∧ t.hcu =
                { s.hcu with
                  helm := .standby, requestTimer := none, demandTimer := none
                  vacant := s.hcu.vacant || decide (s.hcu.holder = some s.sc.number) }
            ∧ (s.sc.fitted.engine = true →
                t.tsu.sp = 0 ∧ t.tsu.gear = .at .neutral ∧ t.tsu.cond = .normal ∧ t.tsu.aOwn = 0 ∧ t.tsu.dutyReq = 0)
            ∧ t.stu.responsive = (if s.stu.state = .unfitted then s.stu.responsive else false)
            ∧ (s.stu.state ≠ .unfitted →
                t.stu.state = .resting ∧ t.stu.reqPort = 0 ∧ t.stu.reqStbd = 0 ∧ t.stu.jam = none)
            ∧ winchInSafe s.cu.a t.cu.a ∧ winchInSafe s.cu.b t.cu.b
            ∧ t.tau = { s.tau with causes := [], repeatTimer := none }
            ∧ onlyChanges [.sc, .tbi, .hcu, .tsu, .stu, .cu, .tau, .dch] s t)

/-! ### The peer table (chapter 1) -/

/-- STATUS, its numeric fields clamped (R186), replaces the sender's record by R4 or R5, moves its state by R7 and its deadlines by R6, drops the account
part on return from LOST (R10), and marks a holder in STANDBY vacant (R24). No other record changes. -/
def Obligations.StatusUpdatesTheSender : Prop :=
  ∀ (s : State) (f : Frame), admits s f → f.cls = clsStatus →
    ∃ t, exec .status s = .next t ∧ t.tbi = (taken s).tbi ∧ (∀ n, n ≠ f.sender → peer t n = peer s n)
      ∧ (peer t f.sender).state =
          (match (peer s f.sender).state with
           | .absent | .lost => .heard
           | .heard | .live | .stale => .live)
      ∧ (peer t f.sender).account = (if (peer s f.sender).state = .lost then none else (peer s f.sender).account)
      ∧ (∀ x, getStatus (capLimit s) f.payload = .full x →
          (peer t f.sender).core = some ⟨x.fitted, x.reported, x.period, x.alarms, s.now⟩
            ∧ (peer t f.sender).staleAt = some (s.now + 300000 * x.period)
            ∧ (peer t f.sender).lossAt = some (s.now + 1000000 * x.period)
            ∧ (peer t f.sender).commissioning = none ∧ (peer t f.sender).engine = x.engine
            ∧ (peer t f.sender).rudder = x.rudder ∧ (peer t f.sender).winchA = x.winchA
            ∧ (peer t f.sender).winchB = x.winchB ∧ (peer t f.sender).helm = x.helm)
      ∧ (∀ x, getStatus (capLimit s) f.payload = .full x → statusClamped (capLimit s) f.payload x)
      ∧ (∀ m k, getStatus (capLimit s) f.payload = .short m k →
          (peer t f.sender).core = some ⟨m, .listen, 10, 0, s.now⟩
            ∧ (peer t f.sender).staleAt = some (s.now + 3000000) ∧ (peer t f.sender).lossAt = some (s.now + 10000000)
            ∧ (peer t f.sender).commissioning = some k ∧ (peer t f.sender).engine = none
            ∧ (peer t f.sender).rudder = none
            ∧ (peer t f.sender).winchA = (if m.winchA then some ⟨.standby, 0, none⟩ else none)
            ∧ (peer t f.sender).winchB = (if m.winchB then some ⟨.standby, 0, none⟩ else none)
            ∧ (peer t f.sender).helm =
                (if m.helm then some ⟨.standby, ((peer s f.sender).helm.map (·.epoch)).getD 0, none⟩ else none))
      ∧ t.hcu =
          { s.hcu with
            vacant :=
              s.hcu.vacant
                || (decide (s.hcu.holder = some f.sender) && (peer t f.sender).helm.any (·.state == .standby)) }
      ∧ onlyChanges [.tbi, .pt, .hcu] s t

/-- CAP replaces the cap and tension of the named winch of the sender's record, clamped (R186), and nothing else of
it; a winch not in the record's fitted mask is refused NOT_WINCH (R12). -/
def Obligations.CapUpdatesTheWinch : Prop :=
  ∀ (s : State) (f : Frame) (w : WinchId), admits s f → f.cls = clsCap → winchOf (getU 1 0 f.payload) = some w →
    let cap := if getU 2 1 f.payload = 65535 then none else some (min (capLimit s) (getU 2 1 f.payload))
    let tension := min 4000 (getU 2 3 f.payload)
    let rec' := peer s f.sender
    (winchFitted (recordFitted rec') w = true →
        ∃ t, exec .cap s = .next t ∧ t.tbi = (taken s).tbi ∧ (∀ n, n ≠ f.sender → peer t n = peer s n)
          ∧ peer t f.sender =
              (match w with
               | .a => { rec' with winchA := rec'.winchA.map fun p => ⟨p.state, tension, cap⟩ }
               | .b => { rec' with winchB := rec'.winchB.map fun p => ⟨p.state, tension, cap⟩ })
          ∧ onlyChanges [.tbi, .pt] s t)
      ∧ (winchFitted (recordFitted rec') w = false → exec .cap s = .next (refuse f .notWinch (taken s)))

/-- ACCOUNT is stored where R14's table stores it, and moves the open leg exactly where R125 adopts it. -/
def Obligations.AccountStoredAndAdopted : Prop :=
  ∀ (s : State) (f : Frame), admits s f → f.cls = clsAccount → s.fau.kept.closed.length ≤ 4 →
    let x := getAccount f.payload
    let old := peer s f.sender
    let adopts := s.sc.fitted.engine = true ∧ joined s.sc.station = true ∧ x.closed = false ∧ old.state = .live
      ∧ succeeds x.leg s.fau.kept.leg = true
    ∃ t, exec .account s = .next t ∧ (∀ n, n ≠ f.sender → peer t n = peer s n)
      ∧ (old.account = none → peer t f.sender = { old with account := some x })
      ∧ (∀ y, old.account = some y →
          (x.flags.restarted = true ∨ succeeds x.leg y.leg = true ∨ (x.leg = y.leg ∧ (x.closed = true ∨ y.closed = false)) →
              peer t f.sender = { old with account := some x })
            ∧ (¬ (x.flags.restarted = true ∨ succeeds x.leg y.leg = true
                  ∨ (x.leg = y.leg ∧ (x.closed = true ∨ y.closed = false))) →
                peer t f.sender = old))
      ∧ (adopts → legOpened s t x.leg true ∧ onlyChanges [.tbi, .pt, .fau] s t)
      ∧ (¬ adopts → t.tbi = (taken s).tbi ∧ onlyChanges [.tbi, .pt] s t)

/-- STALE_DEADLINE of a record in HEARD or LIVE: it enters STALE and keeps every field (R8). LOSS_DEADLINE of a record in
STALE: it enters LOST without caps and deadlines, counts for no sum and no cap any more, raises COUPLING_BLIND where a
winch was last reported under watch, and leaves a holder vacant (R9, R18, R24). The moment of an expiry is log 2; that STALE
keeps both deadlines is log 32. -/
def Obligations.PeerDeadlines : Prop :=
  ∀ (s : State) (n : Station) (d : Nat), s.powered = true →
    ((peer s n).state = .heard ∨ (peer s n).state = .live → (peer s n).staleAt = some d →
        ∃ t, exec (.staleDeadline n) s = .next t ∧ t.now = max s.now d
          ∧ peer t n = { peer s n with state := .stale } ∧ (∀ m, m ≠ n → peer t m = peer s m)
          ∧ onlyChanges [.now, .pt] s t)
      ∧ ((peer s n).state = .stale → (peer s n).lossAt = some d →
          ∃ t, exec (.lossDeadline n) s = .next t ∧ t.now = max s.now d
            ∧ peer t n =
                { peer s n with
                  state := .lost, staleAt := none, lossAt := none
                  winchA := (peer s n).winchA.map fun w => { w with cap := none }
                  winchB := (peer s n).winchB.map fun w => { w with cap := none } }
            ∧ (∀ m, m ≠ n → peer t m = peer s m)
            ∧ powerOf (peer t n) = 0 ∧ gainOf (peer t n) = 0 ∧ capsOf (peer t n) = []
            ∧ (∀ w, (peer s n).winchA = some w ∨ (peer s n).winchB = some w →
                w.state ≠ .released → w.state ≠ .standby → w.state ≠ .unfitted →
                alarmPresent t .couplingBlind = true)
            ∧ t.hcu = { s.hcu with vacant := s.hcu.vacant || decide (s.hcu.holder = some n) }
            ∧ onlyChanges [.now, .pt, .hcu] s t)

/-- The values PT derives: the power and rudder sums over the 30 records, to which a record adds its power and gain in LIVE
or STALE only; the cap set of the own caps and those of records in HEARD, LIVE or STALE; the lowest cap, its least
(R15, R16). -/
def Obligations.ConvoyView : Prop :=
  ∀ s : State,
    (∀ r : PeerRecord, r.state ≠ .live → r.state ≠ .stale → powerOf r = 0 ∧ gainOf r = 0)
      ∧ (∀ (r : PeerRecord) (c : PeerCore) (e : EnginePart), r.state = .live ∨ r.state = .stale → r.core = some c →
          c.fitted.engine = true → r.engine = some e → powerOf r = e.power)
      ∧ (∀ (r : PeerRecord) (c : PeerCore) (x : RudderPart), r.state = .live ∨ r.state = .stale → r.core = some c →
          c.fitted.rudder = true → r.rudder = some x → gainOf r = if x.responsive then x.gain else 0)
      ∧ sumPower s = ((List.range 30).map fun i => powerOf (peer s (BitVec.ofNat 5 (i + 1)))).sum
      ∧ sumGain s = ((List.range 30).map fun i => gainOf (peer s (BitVec.ofNat 5 (i + 1)))).sum
      ∧ (∀ k, k ∈ capSet s ↔
          s.cu.a.ownCap = some k ∨ s.cu.b.ownCap = some k
            ∨ ∃ n : Station, isHeard (peer s n) = true
                ∧ ((peer s n).winchA.bind (·.cap) = some k ∨ (peer s n).winchB.bind (·.cap) = some k))
      ∧ (∀ k, lowestCap s = some k ↔ k ∈ capSet s ∧ ∀ j ∈ capSet s, k ≤ j)

/-! ### Helm command (chapter 2) -/

/-- COMMAND SEIZE is a claim of its sender: adopted, confirmed, or counted STALE_COMMAND (R22, R23, R31, R33). -/
def Obligations.SeizeFrame : Prop :=
  ∀ (s : State) (f : Frame), admits s f → f.cls = clsCommand → f.byte0 = 4 →
    ∃ t, exec .commandSeize s = .next t ∧ claimEffect s t (BitVec.ofNat 16 (getU 2 1 f.payload)) f.sender false
      ∧ onlyChanges [.tbi, .hcu, .dch] s t

/-- COMMAND GRANT to another station is a claim of that station; outside 1..30 it is counted STALE_COMMAND (R23). To
this station it takes a REQUESTING station into command (R31, R35), leaves a STANDBY station vacant (R34), moves the
record of a station IN_COMMAND, where without precedence it counts too (R34; equal to the own pair: log 35), and with lower
precedence only counts. -/
def Obligations.GrantFrame : Prop :=
  ∀ (s : State) (f : Frame), admits s f → f.cls = clsCommand → f.byte0 = 2 →
    let g := getU 1 1 f.payload
    let e := BitVec.ofNat 16 (getU 2 2 f.payload)
    let own := s.sc.number
    let h : Hcu :=
      { s.hcu with
        holder := some own, epoch := e, vacant := false
        demand := { s.hcu.demand with valid := s.hcu.demand.valid && decide (s.hcu.holder = some own ∧ s.hcu.epoch = e) } }
    ∃ t, exec .commandGrant s = .next t ∧ onlyChanges [.tbi, .hcu, .dch] s t
      ∧ (1 ≤ g → g ≤ 30 → g ≠ own.toNat → claimEffect s t e (BitVec.ofNat 5 g) false)
      ∧ ((g = 0 ∨ 31 ≤ g) ∨ (g = own.toNat ∧ ¬ claimAdopted s.hcu e own ∧ ¬ claimConfirms s.hcu e own) →
          t = count .staleCommand (taken s))
      ∧ (1 ≤ g → g ≤ 30 → g = own.toNat → claimAdopted s.hcu e own ∨ claimConfirms s.hcu e own → s.sc.fitted.helm = true →
          (s.hcu.helm = .requesting →
              t.hcu = enteringHcu s.now h ∧ t.dch = { s.dch with lampReq := true }
                ∧ t.tbi = queuedTbi (taken s) .demand clsDemand (ownDemandBytes s.hcu e) 150)
            ∧ (s.hcu.helm = .standby → t.hcu = { h with vacant := true } ∧ t.dch = s.dch ∧ t.tbi = (taken s).tbi)
            ∧ (s.hcu.helm = .inCommand →
                t.hcu = h ∧ t.dch = s.dch
                  ∧ (claimAdopted s.hcu e own → t.tbi = (taken s).tbi)
                  ∧ (claimConfirms s.hcu e own → t.tbi = (count .staleCommand (taken s)).tbi)))
      ∧ (1 ≤ g → g ≤ 30 → g = own.toNat → claimAdopted s.hcu e own ∨ claimConfirms s.hcu e own →
          s.sc.fitted.helm = false → t.hcu = h ∧ t.dch = s.dch ∧ t.tbi = (taken s).tbi)

/-- DEMAND is a claim of its sender; where its pair is then the recorded one, it is accepted with D and R clamped and
any other mode taken as CONFINED, and the helm-loss timer restarts; otherwise it only counts STALE_COMMAND (R38, R39). -/
def Obligations.DemandFrame : Prop :=
  ∀ (s : State) (f : Frame), admits s f → f.cls = clsDemand →
    let e := BitVec.ofNat 16 (getU 2 0 f.payload)
    let d := max (-1000) (min 1000 (getS 2 2 f.payload))
    let r := max (-1000) (min 1000 (getS 2 4 f.payload))
    let mode := if getU 1 6 f.payload = 1 then Mode.opened else .confined
    ∃ t u, exec .demand s = .next t ∧ claimEffect s u e f.sender true ∧ t.tbi = u.tbi ∧ t.dch = u.dch
      ∧ (claimAdopted s.hcu e f.sender ∨ claimConfirms s.hcu e f.sender →
          t.hcu =
            { u.hcu with
              demand := ⟨d, r, mode, some s.now, true⟩, helmLossTimer := some (s.now + 1000000), helmLost := false }
            ∧ used t = ⟨d, r, mode⟩)
      ∧ (¬ claimAdopted s.hcu e f.sender → ¬ claimConfirms s.hcu e f.sender → t.hcu = s.hcu)
      ∧ onlyChanges [.tbi, .hcu, .dch] s t

/-- COMMAND REQUEST reaching a station IN_COMMAND is answered: DECLINE STALE_EPOCH, GRANT with the next epoch and
leaving command, or DECLINE MISMATCH; reaching any other station it is not answered (R32, R33). COMMAND DECLINE addressed
to a station REQUESTING takes it to STANDBY with the reason kept; any other changes nothing (R31, R34). -/
def Obligations.RequestAndDecline : Prop :=
  (∀ (s : State) (f : Frame), admits s f → f.cls = clsCommand → f.byte0 = 1 →
      let e := BitVec.ofNat 16 (getU 2 1 f.payload)
      let near := (max (-1000) (min 1000 (getS 2 3 f.payload)) - s.hcu.dOwn).natAbs ≤ (cfg5 s).matchBand
        ∧ (max (-1000) (min 1000 (getS 2 5 f.payload)) - s.hcu.rOwn).natAbs ≤ (cfg5 s).matchBand
      let answer (p : List Byte) : Tbi := queuedTbi (taken s) .command clsCommand p 500
      let commanding := s.sc.fitted.helm = true ∧ s.hcu.helm = .inCommand
      ∃ t, exec .commandRequest s = .next t
        ∧ (¬ commanding → t = taken s)
        ∧ (commanding → e ≠ s.hcu.epoch →
            t = { taken s with tbi := answer (putU 1 3 ++ putU 1 f.sender.toNat ++ putU 1 1) })
        ∧ (commanding → e = s.hcu.epoch → ¬ near →
            t = { taken s with tbi := answer (putU 1 3 ++ putU 1 f.sender.toNat ++ putU 1 2) })
        ∧ (commanding → e = s.hcu.epoch → near →
            t =
              { taken s with
                tbi := withdrawDemand (answer (putU 1 2 ++ putU 1 f.sender.toNat ++ putU 2 (s.hcu.epoch + 1).toNat))
                dch := { s.dch with lampReq := false }
                hcu :=
                  leavingHcu s.now
                    { s.hcu with
                      holder := some f.sender, epoch := s.hcu.epoch + 1, vacant := false
                      demand := { s.hcu.demand with valid := false } } }))
    ∧ ∀ (s : State) (f : Frame), admits s f → f.cls = clsCommand → f.byte0 = 3 →
        (s.sc.fitted.helm = true → s.hcu.helm = .requesting → getU 1 1 f.payload = s.sc.number.toNat →
            exec .commandDecline s = .next
              { taken s with
                hcu :=
                  { s.hcu with
                    helm := .standby, requestTimer := none
                    lastDecline :=
                      if getU 1 2 f.payload = 1 then some .staleEpoch
                      else if getU 1 2 f.payload = 2 then some .mismatch else none } })
          ∧ (s.sc.fitted.helm = false ∨ s.hcu.helm ≠ .requesting ∨ getU 1 1 f.payload ≠ s.sc.number.toNat →
              exec .commandDecline s = .next (taken s))

/-- The lever mapping of R26 for an ordered calibration: 0 in the detent, the truncated ratio outside it, full demand
at the calibrated ends, never beyond ±1000, and never falling as the raw value rises. -/
def Obligations.LeverMapping : Prop :=
  ∀ (c : LeverCal) (raw raw' : Int), leverOrdered c = true →
    let upper : Int := c.rawNeutral + c.det
    let lower : Int := c.rawNeutral - c.det
    (lower ≤ raw → raw ≤ upper → leverDemand c raw = 0)
      ∧ (upper < raw → leverDemand c raw = min 1000 (Int.tdiv (1000 * (raw - upper)) (c.rawPos - upper)))
      ∧ (raw < lower → leverDemand c raw = max (-1000) (-(Int.tdiv (1000 * (lower - raw)) (lower - c.rawNeg))))
      ∧ leverDemand c c.rawPos = 1000 ∧ leverDemand c c.rawNeg = -1000
      ∧ -1000 ≤ leverDemand c raw ∧ leverDemand c raw ≤ 1000
      ∧ (raw ≤ raw' → leverDemand c raw ≤ leverDemand c raw')

/-- HCU_SCAN_COMPLETION takes the inputs and levers (R25 to R27). Without an edge acted on, a station not IN_COMMAND
does no more. A TAKE edge in STANDBY queues REQUEST, or acts as SEIZE where there is no holder or a vacant one (R29); a
SEIZE edge takes the next epoch (R30). In command the own record is fed and an extra DEMAND queued by R36. MODE_SEL gives OPEN
while its debounced state is inactive, and CONFINED while it is active or unset (R25). Which of two edges comes first is
free (log 11); that inputs and levers are taken in SAFE too is log 31. -/
def Obligations.HelmScan : Prop :=
  (∀ h : Hcu,
      (h.modeSel.state = some false → modeNow h = .opened)
        ∧ (h.modeSel.state = some true ∨ h.modeSel.state = none → modeNow h = .confined))
  ∧ ∀ (s : State) (m : SampleSet), s.powered = true → s.ssq.sample = some m → s.due.hcu = true →
    let h := helmSampled s m
    let acts := s.sc.station = .run ∧ h.leverFault = false
    let take := acts ∧ risingEdge m.pins.take s.hcu.take
    let seize := acts ∧ risingEdge m.pins.seize s.hcu.seize
    let fed : Hcu :=
      { h with
        demand := ⟨h.dOwn, h.rOwn, modeNow h, some s.now, true⟩, helmLossTimer := some (s.now + 1000000)
        helmLost := false }
    let seized :=
      enteringHcu s.now
        { h with holder := some s.sc.number, epoch := s.hcu.epoch + 1, vacant := false, lastDecline := none }
    let seizeTbi :=
      queueTbi .demand ⟨clsDemand, s.sc.number, ownDemandBytes h (s.hcu.epoch + 1)⟩ (s.now + 150000)
        (queuedTbi s .command clsCommand (putU 1 4 ++ putU 2 (s.hcu.epoch + 1).toNat) 500)
    ∃ t, exec .hcuScanCompletion s = .next t ∧ t.due = { s.due with hcu := false }
      ∧ (s.hcu.helm ≠ .inCommand → ¬ take → ¬ seize → t.hcu = h ∧ onlyChanges [.due, .hcu] s t)
      ∧ (s.hcu.helm = .standby → take → ¬ seize → s.hcu.holder ≠ none → s.hcu.vacant = false →
          t.hcu = { h with helm := .requesting, requestTimer := some (s.now + 2000000), lastDecline := none }
            ∧ t.tbi =
                queuedTbi s .command clsCommand
                  (putU 1 1 ++ putU 2 s.hcu.epoch.toNat ++ putS 2 h.dOwn ++ putS 2 h.rOwn) 500
            ∧ onlyChanges [.due, .tbi, .hcu] s t)
      ∧ (s.hcu.helm = .requesting → take → ¬ seize → t.hcu = h ∧ onlyChanges [.due, .hcu] s t)
      ∧ ((s.hcu.helm = .standby ∧ take ∧ ¬ seize ∧ (s.hcu.holder = none ∨ s.hcu.vacant = true))
            ∨ (s.hcu.helm ≠ .inCommand ∧ seize ∧ ¬ take) →
          t.hcu = seized ∧ t.tbi = seizeTbi ∧ t.dch = { s.dch with lampReq := true }
            ∧ onlyChanges [.due, .tbi, .hcu, .dch] s t)
      ∧ (s.hcu.helm ≠ .inCommand → take → seize →
          t.hcu = seized ∧ t.dch = { s.dch with lampReq := true } ∧ onlyChanges [.due, .freeSeq, .tbi, .hcu, .dch] s t)
      ∧ (∀ q, s.hcu.helm = .inCommand → s.hcu.lastQueued = some q →
          (20 ≤ (h.dOwn - q.d).natAbs ∨ 20 ≤ (h.rOwn - q.r).natAbs ∨ modeNow h ≠ q.mode →
              t.hcu = { fed with lastQueued := some ⟨h.dOwn, h.rOwn, modeNow h⟩ }
                ∧ t.tbi = queuedTbi s .demand clsDemand (ownDemandBytes h s.hcu.epoch) 150
                ∧ onlyChanges [.due, .freeSeq, .tbi, .hcu] s t)
            ∧ ((h.dOwn - q.d).natAbs < 20 → (h.rOwn - q.r).natAbs < 20 → modeNow h = q.mode →
                t.hcu = fed ∧ onlyChanges [.due, .freeSeq, .hcu] s t))

/-- The three timers of HCU. The request timer ends REQUESTING in STANDBY (R31); the DEMAND timer queues a DEMAND with
the latest lever values and restarts (R35); the helm-loss timer clears valid and raises HELM_LOST (R39). D, R and mode as
used are the stored ones while valid is set, and 0, 0 and CONFINED while it is clear (R37). The moment of an expiry is
log 2. -/
def Obligations.HelmTimers : Prop :=
  (∀ s : State,
      (s.hcu.demand.valid = true → used s = ⟨s.hcu.demand.d, s.hcu.demand.r, s.hcu.demand.mode⟩)
        ∧ (s.hcu.demand.valid = false → used s = ⟨0, 0, .confined⟩))
  ∧ ∀ (s : State) (d : Nat), s.powered = true →
    (s.hcu.requestTimer = some d → s.hcu.helm = .requesting →
        exec .requestTimerExpiry s = .next
          { s with now := max s.now d, hcu := { s.hcu with requestTimer := none, helm := .standby } })
      ∧ (s.hcu.demandTimer = some d →
          exec .demandTimerExpiry s = .next
            { s with
              now := max s.now d
              hcu :=
                { s.hcu with
                  demandTimer := some (d + 100000), lastQueued := some ⟨s.hcu.dOwn, s.hcu.rOwn, modeNow s.hcu⟩ }
              tbi :=
                queueTbi .demand ⟨clsDemand, s.sc.number, ownDemandBytes s.hcu s.hcu.epoch⟩ (max s.now d + 150000)
                  s.tbi })
      ∧ (s.hcu.helmLossTimer = some d →
          ∃ t, exec .helmLossTimerExpiry s = .next t
            ∧ t =
                { s with
                  now := max s.now d
                  hcu :=
                    { s.hcu with
                      helmLossTimer := none, helmLost := true, demand := { s.hcu.demand with valid := false } } }
            ∧ used t = ⟨0, 0, .confined⟩ ∧ alarmPresent t .helmLost = true)

/-! ### Thrust (chapter 3) -/

/-- The share computation of R46 to R49 with its bounds: never above the lowest cap nor above ΣA, the base share and
the target within A_own, no assist astern, stopped or on side CENTRE, and the assist within half the base share. The ramp
of R50: up by ramp_up, down by ramp_down, never past the target nor through 0, the mirror image for the other sign. The
clause for a target whose sign opposes sp is the model's choice (log 38): the gear rules pass no such target (R50). -/
def Obligations.ShareAndRamp : Prop :=
  (∀ (c : P1) (i : ShareInputs),
      let q := i.d.natAbs * c.nominal / 1000
      let qEff := match i.cap with | some k => min (min q i.sumA) k | none => min q i.sumA
      let b := if i.sumA = 0 then 0 else qEff * i.aOwn / i.sumA
      let m : Int := if 0 < i.d then Int.tdiv (-c.side * b * c.assist * i.r) 1000000 else 0
      let u := max 0 (min (i.aOwn : Int) (b + m))
      effectiveDemand c i = qEff ∧ baseShare c i = b ∧ turnAssist c i = m
        ∧ shareTarget c i = (if 0 < i.d then u else if i.d < 0 then -u else 0)
        ∧ qEff ≤ i.sumA ∧ (∀ k, i.cap = some k → qEff ≤ k) ∧ b ≤ i.aOwn ∧ (shareTarget c i).natAbs ≤ i.aOwn
        ∧ (c.side = 0 → m = 0)
        ∧ (c.side.natAbs ≤ 1 → c.assist ≤ 500 → i.r.natAbs ≤ 1000 → 2 * m.natAbs ≤ b))
    ∧ ∀ (r : Ramp) (target sp : Int),
        (0 ≤ sp → sp < target → rampStep r target sp = min target (sp + r.up))
          ∧ (0 ≤ target → target < sp → rampStep r target sp = max target (sp - r.down))
          ∧ (rampStep r sp sp = sp)
          ∧ (0 < sp → target < 0 → rampStep r target sp = max 0 (sp - r.down))
          ∧ rampStep r (-target) (-sp) = -rampStep r target sp

/-- When the stations agree on ΣA, the sum of their base shares is not above the effective demand, and so not above the
cap (R46). -/
def Obligations.SharesWithinCap : Prop :=
  ∀ (c : P1) (d r : Int) (cap : Option Nat) (powers : List Nat),
    (powers.map fun a => baseShare c ⟨d, r, powers.sum, cap, a⟩).sum ≤ effectiveDemand c ⟨d, r, powers.sum, cap, 0⟩
      ∧ ∀ k, cap = some k → (powers.map fun a => baseShare c ⟨d, r, powers.sum, cap, a⟩).sum ≤ k

/-- The engine condition at a scan completion in RUN or HOLD (R61, R62): the lag and in-band counts in AHEAD and ASTERN
against the expected speed less lag_band, LAGGING and NORMAL after lag_time × 10 scans, FAULT after 20 stalled scans,
NORMAL after 20 scans at idle speed. The quotient of the expected speed by a rated_kW of 0 is free (log 37). -/
def Obligations.EngineCondition : Prop :=
  ∀ (c : P1) (speed : Nat) (x : Tsu),
    let y := condStep c speed x
    let expected : Int := c.idleRpm + perEngineFigure .expected (((c.ratedRpm : Int) - c.idleRpm) * x.sp.natAbs) c.ratedKw
    let below := (speed : Int) < expected - c.lagBand
    let inGear := x.gear = .at .ahead ∨ x.gear = .at .astern
    (x.cond ≠ .fault → speed < c.stallRpm → 19 ≤ x.stall →
        y.cond = .fault ∧ y.lag = 0 ∧ y.inBand = 0 ∧ y.stall = 0)
      ∧ (x.cond ≠ .fault → speed < c.stallRpm → x.stall < 19 → y.cond ≠ .fault ∧ y.stall = x.stall + 1)
      ∧ (x.cond ≠ .fault → c.stallRpm ≤ speed → y.cond ≠ .fault ∧ y.stall = 0)
      ∧ (x.cond = .fault → c.idleRpm ≤ speed → 19 ≤ x.recovery → y.cond = .normal ∧ y.recovery = 0)
      ∧ (x.cond = .fault → c.idleRpm ≤ speed → x.recovery < 19 → y.cond = .fault ∧ y.recovery = x.recovery + 1)
      ∧ (x.cond = .fault → speed < c.idleRpm → y.cond = .fault ∧ y.recovery = 0)
      ∧ (y.cond ≠ .fault →
          (x.cond ≠ .fault → ¬ inGear → y.cond = x.cond ∧ y.lag = 0 ∧ y.inBand = 0)
            ∧ (x.cond = .normal → inGear → below → 10 * c.lagTime ≤ x.lag + 1 → y.cond = .lagging ∧ y.lag = 0)
            ∧ (x.cond = .normal → inGear → below → x.lag + 1 < 10 * c.lagTime → y.cond = .normal ∧ y.lag = x.lag + 1)
            ∧ (x.cond = .normal → inGear → ¬ below → y.cond = .normal ∧ y.lag = 0)
            ∧ (x.cond = .lagging → inGear → ¬ below → 10 * c.lagTime ≤ x.inBand + 1 → y.cond = .normal ∧ y.inBand = 0)
            ∧ (x.cond = .lagging → inGear → ¬ below → x.inBand + 1 < 10 * c.lagTime →
                y.cond = .lagging ∧ y.inBand = x.inBand + 1)
            ∧ (x.cond = .lagging → inGear → below → y.cond = .lagging ∧ y.inBand = 0))
      ∧ y = { x with cond := y.cond, lag := y.lag, inBand := y.inBand, stall := y.stall, recovery := y.recovery }

/-- TSU_SCAN_COMPLETION in RUN (R45): condition, derate, A_own and the cut; then the trip rule, or the target, the gear
rules of R55 to R57 and the ramp; then the governor and gear requests. Under the trip latch T_sp keeps its value
(log 20); the expected speed with a rated_kW of 0 is free, and A_own with one above 8000 is cut to 8000 (log 37). -/
def Obligations.ThrustScanInRun : Prop :=
  ∀ (s : State) (m : SampleSet), s.powered = true → s.ssq.sample = some m → s.due.tsu = true → s.sc.station = .run →
    let c := cfg1 s
    let x := condStep c m.rpm s.tsu
    let derate := workingDerate x.cond (tankReserve s)
    let aOwn := min 8000 (c.ratedKw * derate / 1000)
    let sp := max (-(aOwn : Int)) (min (aOwn : Int) x.sp)
    let target := shareTarget c ⟨(used s).d, (used s).r, aOwn + sumPower s, lowestCap s, aOwn⟩
    let ramp := match (used s).mode with | .opened => c.openRamp | .confined => c.confRamp
    let y : Tsu := { x with derate := derate, aOwn := aOwn, sp := sp }
    let z : Tsu := { y with target := target }
    let faultPresent := s.tau.latched.gearFault
    let slow := m.rpm ≤ c.shiftRpm
    ∃ t, exec .tsuScanCompletion s = .next t ∧ onlyChanges [.due, .tsu, .tau, .dch] s t
      ∧ t.due = { s.due with tsu := false } ∧ thrustRequests s t
      ∧ t.tau.latched =
          { s.tau.latched with engineFault := s.tau.latched.engineFault || decide (s.tsu.cond ≠ .fault ∧ x.cond = .fault) }
      ∧ t.tau = { s.tau with latched := t.tau.latched }
      ∧ t.tsu.dutyReq = governorDuty c t.tsu.sp
      ∧ (s.tau.latch = true → t.tsu = { tripped y with dutyReq := t.tsu.dutyReq })
      ∧ (s.tau.latch = false → ∀ g, x.gear = .at g →
          (target = 0 ∨ signGear target = g →
              t.tsu = { z with sp := if g = .neutral then 0 else rampStep ramp target sp, dutyReq := t.tsu.dutyReq })
            ∧ (target ≠ 0 → signGear target ≠ g → faultPresent = true →
                t.tsu = { z with sp := if g = .neutral then 0 else rampStep ramp 0 sp, dutyReq := t.tsu.dutyReq })
            ∧ (target ≠ 0 → faultPresent = false → g = .neutral →
                t.tsu =
                  { z with
                    sp := 0, dutyReq := t.tsu.dutyReq
                    gear := .shifting (if slow then .engage else .rundown) .neutral (signGear target)
                    shiftTimer := some (s.now + if slow then 1000000 else 10000000) })
            ∧ (target ≠ 0 → signGear target ≠ g → faultPresent = false → g ≠ .neutral →
                t.tsu =
                  { z with
                    sp := rampStep ramp 0 sp, dutyReq := t.tsu.dutyReq
                    gear :=
                      .shifting (if rampStep ramp 0 sp = 0 ∧ slow then .dwell else .rundown) g (signGear (used s).d)
                    shiftTimer := some (s.now + if rampStep ramp 0 sp = 0 ∧ slow then 1500000 else 10000000) }))
      ∧ (s.tau.latch = false → ∀ origin aim, x.gear = .shifting .rundown origin aim →
          (origin ≠ .neutral → signGear target = origin →
              t.tsu =
                { z with
                  gear := .at origin, shiftTimer := none, sp := rampStep ramp target sp, dutyReq := t.tsu.dutyReq })
            ∧ (origin ≠ .neutral → signGear target ≠ origin →
                t.tsu =
                  { z with
                    sp := rampStep ramp 0 sp, dutyReq := t.tsu.dutyReq
                    gear :=
                      .shifting (if rampStep ramp 0 sp = 0 ∧ slow then .dwell else .rundown) origin (signGear (used s).d)
                    shiftTimer := if rampStep ramp 0 sp = 0 ∧ slow then some (s.now + 1500000) else z.shiftTimer })
            ∧ (origin = .neutral → target = 0 →
                t.tsu = { z with gear := .at .neutral, shiftTimer := none, sp := 0, dutyReq := t.tsu.dutyReq })
            ∧ (origin = .neutral → target ≠ 0 →
                t.tsu =
                  { z with
                    sp := 0, dutyReq := t.tsu.dutyReq
                    gear := .shifting (if slow then .engage else .rundown) .neutral (signGear target)
                    shiftTimer := if slow then some (s.now + 1000000) else z.shiftTimer }))
      ∧ (s.tau.latch = false → ∀ origin aim, x.gear = .shifting .dwell origin aim →
          t.tsu = { z with sp := 0, gear := .shifting .dwell origin (signGear (used s).d), dutyReq := t.tsu.dutyReq })
      ∧ (s.tau.latch = false → ∀ origin aim, x.gear = .shifting .engage origin aim →
          t.tsu = { z with sp := 0, dutyReq := t.tsu.dutyReq })

/-- TSU_SCAN_COMPLETION outside RUN. In HOLD with the latch clear, sp steps toward 0 by the CONFINED ramp_down, and a shift
in flight goes on with the target 0 and D taken as 0: RUNDOWN to DWELL, or back to NEUTRAL (log 19), DWELL and ENGAGE at
sp 0 (R65); in JOINING sp is 0, the gear NEUTRAL and the counts 0, at idle_duty (R64); in LISTEN and SAFE nothing
happens (R42, R66). Model's choices: T_sp keeps its value (log 20), the abandoned RUNDOWN (log 19), A_own with a
rated_kW above 8000 and the expected speed with one of 0, which is free (log 37). -/
def Obligations.ThrustScanElsewhere : Prop :=
  ∀ (s : State) (m : SampleSet), s.powered = true → s.ssq.sample = some m → s.due.tsu = true →
    let c := cfg1 s
    let x := condStep c m.rpm s.tsu
    let derate := workingDerate x.cond (tankReserve s)
    let aOwn := min 8000 (c.ratedKw * derate / 1000)
    let sp := max (-(aOwn : Int)) (min (aOwn : Int) x.sp)
    ∃ t, exec .tsuScanCompletion s = .next t ∧ onlyChanges [.due, .tsu, .tau, .dch] s t
      ∧ t.due = { s.due with tsu := false }
      ∧ (s.sc.station = .hold →
          t.tau =
            { s.tau with
              latched :=
                { s.tau.latched with
                  engineFault := s.tau.latched.engineFault || decide (s.tsu.cond ≠ .fault ∧ x.cond = .fault) } })
      ∧ (s.sc.station = .hold → s.tau.latch = false → ∀ g, x.gear = .at g →
          t.tsu =
              { x with
                derate := derate, aOwn := aOwn, sp := if g = .neutral then 0 else rampStep c.confRamp 0 sp
                dutyReq := t.tsu.dutyReq }
            ∧ t.tsu.dutyReq = governorDuty c t.tsu.sp ∧ thrustRequests s t)
      ∧ (s.sc.station = .hold → t.tsu.dutyReq = governorDuty c t.tsu.sp ∧ thrustRequests s t)
      ∧ (s.sc.station = .hold → s.tau.latch = false →
          let y : Tsu := { x with derate := derate, aOwn := aOwn, dutyReq := t.tsu.dutyReq }
          let down := rampStep c.confRamp 0 sp
          let dwells := down = 0 ∧ m.rpm ≤ c.shiftRpm
          (∀ aim, x.gear = .shifting .rundown .neutral aim →
              t.tsu = { y with sp := 0, gear := .at .neutral, shiftTimer := none })
            ∧ (∀ origin aim, x.gear = .shifting .rundown origin aim → origin ≠ .neutral →
                t.tsu =
                  { y with
                    sp := down, gear := .shifting (if dwells then .dwell else .rundown) origin .neutral
                    shiftTimer := if dwells then some (s.now + 1500000) else s.tsu.shiftTimer })
            ∧ (∀ origin aim, x.gear = .shifting .dwell origin aim →
                t.tsu = { y with sp := 0, gear := .shifting .dwell origin .neutral })
            ∧ (∀ origin aim, x.gear = .shifting .engage origin aim → t.tsu = { y with sp := 0 }))
      ∧ (s.sc.station = .hold → s.tau.latch = true →
          t.tsu = { tripped { x with derate := derate, aOwn := aOwn, sp := sp } with dutyReq := t.tsu.dutyReq }
            ∧ t.tsu.dutyReq = c.idleDuty ∧ thrustRequests s t)
      ∧ (s.sc.station = .joining →
          t.tsu =
              { s.tsu with
                sp := 0, gear := .at .neutral, shiftTimer := none, lag := 0, inBand := 0, stall := 0, recovery := 0
                derate := 0, aOwn := 0, dutyReq := c.idleDuty }
            ∧ thrustRequests s t ∧ t.tau = s.tau)
      ∧ (s.sc.station = .listen ∨ s.sc.station = .safe → t = { s with due := { s.due with tsu := false } })

/-- The shift timer. RUNDOWN_TIMEOUT latches GEAR_FAULT and goes back to the shift origin, sp as it is (R58).
DWELL_EXPIRY engages the gear of D as used, D taken as 0 in HOLD and under the trip latch (R59, R63, R65).
SETTLE_EXPIRY makes the target gear the gear state (R60). The moment of an expiry is log 2; that the latch is read at the
dwell expiry alone is log 40. -/
def Obligations.ShiftTimers : Prop :=
  ∀ (s : State) (d : Nat) (origin target : Gear), s.powered = true → s.tsu.shiftTimer = some d →
    (s.tsu.gear = .shifting .rundown origin target →
        ∃ t, exec .rundownTimeout s = .next t ∧ t.now = max s.now d
          ∧ t.tsu = { s.tsu with gear := .at origin, shiftTimer := none }
          ∧ t.tau = { s.tau with latched := { s.tau.latched with gearFault := true } }
          ∧ thrustRequests s t ∧ onlyChanges [.now, .tsu, .tau, .dch] s t)
      ∧ (s.tsu.gear = .shifting .dwell origin target →
          let chosen :=
            if s.sc.station = .hold ∨ s.tau.latch = true then Gear.neutral else signGear (used s).d
          ∃ t, exec .dwellExpiry s = .next t ∧ t.now = max s.now d
            ∧ t.tsu =
                { s.tsu with
                  gear := if chosen = .neutral then .at .neutral else .shifting .engage origin chosen
                  shiftTimer := if chosen = .neutral then none else some (d + 1000000) }
            ∧ thrustRequests s t ∧ onlyChanges [.now, .tsu, .dch] s t)
      ∧ (s.tsu.gear = .shifting .engage origin target →
          ∃ t, exec .settleExpiry s = .next t ∧ t.now = max s.now d
            ∧ t.tsu = { s.tsu with gear := .at target, shiftTimer := none }
            ∧ thrustRequests s t ∧ onlyChanges [.now, .tsu, .dch] s t)

/-! ### Steering (chapter 4) -/

/-- The compensation factor and the command angle (R72, R73): c within 1000..1500 and 1000 without live gain; the four
truncated steps; the angle within ±θmax, 0 for R 0, and the opposite for the opposite R. -/
def Obligations.CommandAngle : Prop :=
  ∀ (c : P2) (live : Nat) (r : Int),
    let comp := if live = 0 then 1000 else max 1000 (min 1500 (1000 * c.gref / live))
    let a1 := Int.tdiv (r * c.thetaMax) 1000
    let a2 := Int.tdiv (a1 * c.gain) 1000
    let a3 := Int.tdiv (a2 * comp) 1000
    compensation c live = comp ∧ 1000 ≤ comp ∧ comp ≤ 1500
      ∧ commandAngle c r comp = max (-(c.thetaMax : Int)) (min (c.thetaMax : Int) a3) * c.sign
      ∧ (c.sign.natAbs ≤ 1 → (commandAngle c r comp).natAbs ≤ c.thetaMax)
      ∧ commandAngle c 0 comp = 0 ∧ commandAngle c (-r) comp = -commandAngle c r comp
      ∧ (r.natAbs ≤ 1000 → c.thetaMax ≤ 450 → c.gain ≤ 1000 → a1.natAbs ≤ 450 ∧ a2.natAbs ≤ 450 ∧ a3.natAbs ≤ 675)

/-- STU_SCAN_COMPLETION in FOLLOWING in RUN or HOLD with an angle (R71, R74 to R76, R83): in RUN the angle from R as used,
in HOLD the centre, where the rudder comes to rest; the loop closed outside the deadband by the duty law but not against an
active end stop; the jam watch. -/
def Obligations.RudderFollows : Prop :=
  ∀ (s : State) (m : SampleSet) (v : Int), s.powered = true → s.ssq.sample = some m → s.due.stu = true →
    s.sc.station = .run ∨ s.sc.station = .hold → s.stu.state = .following → givenBy m.rudder = some v →
    ∃ t, exec .stuScanCompletion s = .next t ∧ t.due = { s.due with stu := false }
      ∧ loopClosed s m v s.stu t.stu ∧ (s.sc.station = .hold → t.stu.angle = 0)
      ∧ t.dch = coilRequests s.dch t.stu.reqPort t.stu.reqStbd ∧ onlyChanges [.due, .stu, .dch] s t

/-- STU_SCAN_COMPLETION in the other rudder states of JOINING, RUN and HOLD: FOLLOWING and RESTING go BLIND without an
angle (R80); RESTING with one, BLIND without one and JAMMED keep their state, and an angle is stored (R74, R82); BLIND with
an angle and STOPPED with STEER_STOP read inactive settle, and where that gives FOLLOWING the loop is closed at once (R69,
R79, R80, R83). In LISTEN and SAFE nothing happens (R82, R84). -/
def Obligations.RudderOtherStates : Prop :=
  ∀ (s : State) (m : SampleSet), s.powered = true → s.ssq.sample = some m → s.due.stu = true →
    let x := { s.stu with latest := some m.rudder }
    let angle := match givenBy m.rudder with | some v => some v | none => s.stu.measured
    let kept : Stu := { x with measured := angle, reqPort := 0, reqStbd := 0, responsive := false }
    ∃ t, exec .stuScanCompletion s = .next t ∧ t.due = { s.due with stu := false }
      ∧ onlyChanges [.due, .stu, .dch] s t
      ∧ (s.sc.station = .listen ∨ s.sc.station = .safe → t.stu = s.stu ∧ t.dch = s.dch)
      ∧ (joined s.sc.station = true →
          t.dch = coilRequests s.dch t.stu.reqPort t.stu.reqStbd
            ∧ (s.stu.state = .following ∨ s.stu.state = .resting → givenBy m.rudder = none → t.stu = atRestIn .blind x)
            ∧ (s.stu.state = .resting → givenBy m.rudder ≠ none → t.stu = kept)
            ∧ (s.stu.state = .blind → givenBy m.rudder = none → t.stu = kept)
            ∧ (s.stu.state = .jammed → t.stu = kept)
            ∧ (s.stu.state = .stopped → m.steerStop = true → t.stu = kept)
            ∧ ((s.stu.state = .stopped ∧ m.steerStop = false) ∨ (s.stu.state = .blind ∧ givenBy m.rudder ≠ none) →
                (s.pins.steerStop = true → t.stu = atRestIn .stopped kept)
                  ∧ (s.pins.steerStop = false → givenBy m.rudder = none → t.stu = atRestIn .blind x)
                  ∧ (s.pins.steerStop = false → ∀ v, givenBy m.rudder = some v →
                      (s.sc.station = .joining ∨ (s.sc.station = .hold ∧ (cfg2 s).rest = .holdPosition) →
                          t.stu = atRestIn .resting kept)
                        ∧ (s.sc.station = .run ∨ (s.sc.station = .hold ∧ (cfg2 s).rest = .centre) →
                            loopClosed s m v x t.stu))))

/-- JAM_TIMER_EXPIRY in FOLLOWING: JAMMED, both coils requested 0, the watch stopped, not responsive, RUDDER_JAM latched
(R77, R70). The moment of the expiry is log 2. -/
def Obligations.JamTimer : Prop :=
  ∀ (s : State) (w : JamWatch), s.powered = true → s.stu.state = .following → s.stu.jam = some w →
    exec .jamTimerExpiry s = .next
      { s with
        now := max s.now w.timer, stu := atRestIn .jammed s.stu
        tau := { s.tau with latched := { s.tau.latched with rudderJam := true } }, dch := coilRequests s.dch 0 0 }

/-- STEER_STOP turning active cuts both coils at once, each active side's dead-time running (R167). In JOINING, RUN and
HOLD it latches STEER_STOP, and a RESTING, FOLLOWING or BLIND rudder enters STOPPED (R78); in LISTEN and SAFE no state
changes. An end stop turning active cuts the coil of its side at once and touches no other (R168). Turning inactive changes
no output. An input already active does not turn active (log 2); a side that drove is
then the last active one (log 32). -/
def Obligations.RudderOverrides : Prop :=
  (∀ s : State, s.powered = true →
      let dead := s.now + (cfg2 s).deadTime
      exec .steerStopInactive s = .next { s with pins := { s.pins with steerStop := false } }
        ∧ (s.pins.steerStop = true → exec .steerStopActive s = .next s)
        ∧ (s.pins.steerStop = false → s.sc.fitted.rudder = true →
            ∃ t, exec .steerStopActive s = .next t ∧ t.pins = { s.pins with steerStop := true }
              ∧ t.dch.rud.app1 = 0 ∧ t.dch.rud.app2 = 0
              ∧ (∀ a, activeSide s.dch.rud = some a → t.dch.rud.last = some a ∧ t.dch.rud.dead = some dead)
              ∧ (s.sc.station = .listen ∨ s.sc.station = .safe → t.stu = s.stu ∧ t.tau = s.tau)
              ∧ (joined s.sc.station = true →
                  t.tau = { s.tau with latched := { s.tau.latched with steerStop := true } }
                    ∧ (s.stu.state = .resting ∨ s.stu.state = .following ∨ s.stu.state = .blind →
                        t.stu = atRestIn .stopped s.stu ∧ t.dch.rud.req1 = 0 ∧ t.dch.rud.req2 = 0)
                    ∧ (s.stu.state = .jammed → t.stu = s.stu))
              ∧ onlyChanges [.pins, .stu, .tau, .dch] s t ∧ t.dch = { s.dch with rud := t.dch.rud })
        ∧ (s.pins.steerStop = false → s.sc.fitted.rudder = false →
            exec .steerStopActive s = .next { s with pins := { s.pins with steerStop := true } }))
    ∧ ∀ (s : State) (x : RudderSide), s.powered = true →
        let side : Side := match x with | .port => .one | .stbd => .two
        let level (p : Pins) : Bool := match x with | .port => p.portLim | .stbd => p.stbdLim
        let pinsWith (b : Bool) : Pins :=
          match x with | .port => { s.pins with portLim := b } | .stbd => { s.pins with stbdLim := b }
        exec (.endStopInactive x) s = .next { s with pins := pinsWith false }
          ∧ (level s.pins = true → exec (.endStopActive x) s = .next s)
          ∧ (level s.pins = false → s.sc.fitted.rudder = true →
              exec (.endStopActive x) s = .next
                { s with
                  pins := pinsWith true
                  dch := { s.dch with rud := cutOf (s.now + (cfg2 s).deadTime) side s.dch.rud } })
          ∧ (level s.pins = false → s.sc.fitted.rudder = false →
              exec (.endStopActive x) s = .next { s with pins := pinsWith true })

/-! ### Trip and alarms (chapter 7) -/

/-- TRIP under a clear latch is a setting, with the frame's cause and winch and the sender as origin (R140, R63, R107);
under a set latch it changes nothing. At CU the setting reaches winch A before winch B (log 36). -/
def Obligations.TripFrame : Prop :=
  ∀ (s : State) (f : Frame), admits s f → f.cls = clsTrip →
    let cause :=
      if getU 1 0 f.payload = 1 then TripCause.parted else if getU 1 0 f.payload = 2 then .tripIn else .unspecified
    let winch := if getU 1 1 f.payload = 1 then some WinchId.a else if getU 1 1 f.payload = 2 then some .b else none
    (s.tau.latch = true → exec .trip s = .next (taken s))
      ∧ (s.tau.latch = false →
          ∃ t, exec .trip s = .next t ∧ latchSets (taken s) t ⟨cause, f.sender, winch⟩
            ∧ t.tau = { s.tau with latch := true, record := some ⟨cause, f.sender, winch⟩ }
            ∧ alarmPresent t .tripLatched = true ∧ onlyChanges [.tbi, .tsu, .cu, .tau, .dch] s t)

/-- CLEAR_TRIP by the rows of R141 in their order. ACK_ALARMS clears each latched alarm named in the mask whose
condition does not hold, per winch for PARTED (R143, R145); clearing RUDDER_JAM settles a JAMMED rudder by R69: in HOLD
by the rest policy (R83), in SAFE at rest (R81, R84). The angle it settles by is that of the sample set STU has last taken
(log 26). Another target's frame changes nothing. -/
def Obligations.ClearTripAndAck : Prop :=
  ∀ (s : State) (f : Frame), admits s f → f.cls = clsCommand →
    let here := getU 1 1 f.payload = s.sc.number.toNat ∨ getU 1 1 f.payload = 255
    let named (bit : Nat) : Bool := (getU 4 2 f.payload).testBit bit
    let l := s.tau.latched
    (f.byte0 = 5 →
        (¬ here ∨ s.tau.latch = false → exec .clearTrip s = .next (taken s))
          ∧ (here → s.tau.latch = true → s.tau.causes ≠ [] →
              exec .clearTrip s = .next (refuse f .causeActive (taken s)))
          ∧ (here → s.tau.latch = true → s.tau.causes = [] → (used s).d ≠ 0 →
              exec .clearTrip s = .next (refuse f .demand (taken s)))
          ∧ (here → s.tau.latch = true → s.tau.causes = [] → (used s).d = 0 →
              exec .clearTrip s = .next { taken s with tau := { s.tau with latch := false } }))
      ∧ (f.byte0 = 6 →
          (¬ here → exec .ackAlarms s = .next (taken s))
            ∧ (here →
                ∃ t, exec .ackAlarms s = .next t ∧ t.tbi = (taken s).tbi
                  ∧ t.tau = { s.tau with latched := t.tau.latched }
                  ∧ t.tau.latched =
                      ⟨l.engineFault && !(named 2 && decide (s.tsu.cond ≠ .fault)), l.gearFault && !named 4,
                        l.steerStop && !(named 5 && !s.pins.steerStop), l.rudderJam && !named 6,
                        l.takeupFailedA && !named 8, l.takeupFailedB && !named 8,
                        l.partedA && !(named 10 && decide (s.cu.a.state ≠ .parted)),
                        l.partedB && !(named 10 && decide (s.cu.b.state ≠ .parted)),
                        l.fuelDiscrepancy && !named 12,
                        l.accountSaturated && !(named 13 && !s.fau.kept.flags.saturated), l.accountRestarted && !named 14⟩
                  ∧ (l.rudderJam = true ∧ named 6 = true ∧ s.stu.state = .jammed →
                      (joined s.sc.station = true → s.pins.steerStop = true → t.stu = atRestIn .stopped s.stu)
                        ∧ (joined s.sc.station = true → s.pins.steerStop = false →
                            (∃ r, s.stu.latest = some r ∧ givenBy r = none) → t.stu = atRestIn .blind s.stu)
                        ∧ (s.pins.steerStop = false → (∀ r, s.stu.latest = some r → givenBy r ≠ none) →
                            (s.sc.station = .run → t.stu = { s.stu with state := .following, responsive := true })
                              ∧ (s.sc.station = .hold → (cfg2 s).rest = .centre →
                                  t.stu = { s.stu with state := .following, responsive := false })
                              ∧ (s.sc.station = .hold → (cfg2 s).rest = .holdPosition →
                                  t.stu = atRestIn .resting s.stu)
                              ∧ (s.sc.station = .joining → t.stu = atRestIn .resting s.stu))
                        ∧ (s.sc.station = .safe → t.stu = atRestIn .resting s.stu)
                        ∧ t.dch = coilRequests s.dch t.stu.reqPort t.stu.reqStbd)
                  ∧ (¬ (l.rudderJam = true ∧ named 6 = true ∧ s.stu.state = .jammed) → t.stu = s.stu ∧ t.dch = s.dch)
                  ∧ onlyChanges [.tbi, .stu, .tau, .dch] s t))

/-- TAU_SCAN_COMPLETION begins or ends the cause TRIP_IN in JOINING, RUN and HOLD (R137, R138), and does nothing
elsewhere. TRIP_REPEAT_EXPIRY queues a TRIP with the newest own cause and restarts the timer (R139). The moment of an
expiry is log 2; a setting reaches winch A before winch B (log 36). -/
def Obligations.OwnCauses : Prop :=
  ∀ s : State, s.powered = true →
    (∀ m, s.ssq.sample = some m → s.due.tau = true →
        let u := { s with due := { s.due with tau := false } }
        (joined s.sc.station = false → exec .tauScanCompletion s = .next u)
          ∧ (joined s.sc.station = true → m.pins.tripIn = false →
              exec .tauScanCompletion s = .next { u with tau := causeEnded s.tau .tripIn })
          ∧ (joined s.sc.station = true → m.pins.tripIn = true →
              ∃ t, exec .tauScanCompletion s = .next t ∧ causeBegins u t .tripIn ∧ .tripIn ∈ t.tau.causes
                ∧ onlyChanges [.due, .tbi, .tsu, .cu, .tau, .dch] s t))
      ∧ ∀ (causes : List OwnCause) (c : OwnCause) (d : Nat), s.tau.causes = causes ++ [c] →
          s.tau.repeatTimer = some d →
          exec .tripRepeatExpiry s = .next
            { s with
              now := max s.now d, tau := { s.tau with repeatTimer := some (d + 1000000) }
              tbi := queueTbi .trip ⟨clsTrip, s.sc.number, tripBytes c⟩ (max s.now d + 1000000) s.tbi }

/-! ### Couplings (chapter 5) -/

/-- COUPLE for the own station by R104, then MAKE_FAST by R105's table and RELEASE by R106's, in their order. -/
def Obligations.CoupleFrames : Prop :=
  ∀ (s : State) (f : Frame) (w : WinchId), admits s f → f.cls = clsCouple → winchOf (getU 1 1 f.payload) = some w →
    let row : Instr := if getU 1 2 f.payload = 1 then .coupleMakeFast else .coupleRelease
    let x := winchRec s w
    let here := getU 1 0 f.payload = s.sc.number.toNat ∧ winchFitted s.sc.fitted w = true
    (getU 1 0 f.payload ≠ s.sc.number.toNat → exec row s = .next (taken s))
      ∧ (getU 1 0 f.payload = s.sc.number.toNat → winchFitted s.sc.fitted w = false →
          exec row s = .next (refuse f .notFitted (taken s)))
      ∧ (here → getU 1 2 f.payload = 1 →
          (x.state = .slack ∨ x.state = .released →
              ∃ t, exec .coupleMakeFast s = .next t
                ∧ winchStarts (taken s) t w x .takingUp (cfg3 s).takeupLimit)
            ∧ (x.state = .parted →
                ∃ t, exec .coupleMakeFast s = .next t
                  ∧ winchStarts { taken s with tau := causeEnded s.tau (.parted w) } t w x .takingUp
                      (cfg3 s).takeupLimit)
            ∧ (x.state = .takingUp → exec .coupleMakeFast s = .next (taken s))
            ∧ (x.state = .holding ∨ x.state = .overload ∨ x.state = .rendering ∨ x.state = .releasing
                  ∨ x.state = .blind ∨ x.state = .standby →
                exec .coupleMakeFast s = .next (refuse f .state (taken s))))
      ∧ (here → getU 1 2 f.payload = 2 →
          if x.state = .releasing then exec .coupleRelease s = .next (taken s)
          else if x.state ≠ .holding ∧ x.state ≠ .slack then exec .coupleRelease s = .next (refuse f .state (taken s))
          else if s.tau.latch = true then exec .coupleRelease s = .next (refuse f .trip (taken s))
          else if (used s).mode ≠ .confined then exec .coupleRelease s = .next (refuse f .mode (taken s))
          else if 50 < (used s).d.natAbs then exec .coupleRelease s = .next (refuse f .demand (taken s))
          else
            ∃ t, exec .coupleRelease s = .next t
              ∧ winchStarts (taken s) t w x .releasing (cfg3 s).releaseTime)

/-- CU_SCAN_COMPLETION takes winch A whole, then winch B, each by R89 to R97 with its cap by R101 and R102. A parting of
one reaches the other through the latch (R107). -/
def Obligations.WinchScan : Prop :=
  ∀ (s : State) (m : SampleSet), s.powered = true → s.ssq.sample = some m → s.due.cu = true →
    ∃ u t, exec .cuScanCompletion s = .next t ∧ winchScanned m { s with due := { s.due with cu := false } } u .a
      ∧ winchScanned m u t .b ∧ onlyChanges [.due, .tbi, .tsu, .cu, .tau, .dch] s t

/-- The winch timers. The take-up limit ends in SLACK with TAKEUP_FAILED (R94), the render limit in OVERLOAD with render
inhibit (R95), the release time in RELEASED (R100). The brake dwell requests the operation's duty (R98). The cap repeat
queues the current cap (R102). The moment of an expiry is log 2. -/
def Obligations.WinchTimers : Prop :=
  ∀ (s : State) (w : WinchId) (d : Nat), s.powered = true →
    let x := winchRec s w
    let at' := { s with now := max s.now d }
    let c := cfg3 s
    (x.opTimer = some d →
        (x.state = .takingUp →
            ∃ u, winchEnds at' u w x .slack false
              ∧ exec (.takeupLimitExpiry w) s = .next
                  { u with
                    tau :=
                      { s.tau with
                        latched :=
                          match w with
                          | .a => { s.tau.latched with takeupFailedA := true }
                          | .b => { s.tau.latched with takeupFailedB := true } } })
          ∧ (x.state = .rendering →
              ∃ t, exec (.renderLimitExpiry w) s = .next t ∧ winchEnds at' t w x .overload true)
          ∧ (x.state = .releasing →
              ∃ t, exec (.releaseTimeExpiry w) s = .next t ∧ winchEnds at' t w x .released false))
      ∧ (x.dwellTimer = some d → x.state = .takingUp ∨ x.state = .rendering ∨ x.state = .releasing →
          let haul := if x.state = .takingUp then c.takeupDuty else 0
          let pay := if x.state = .rendering then c.renderDuty else if x.state = .releasing then c.releaseDuty else 0
          ∃ t, exec (.brakeDwellExpiry w) s = .next t ∧ t.now = max s.now d
            ∧ winchRec t w = { x with phase := some .driving, dwellTimer := none, haul := haul, pay := pay }
            ∧ winchRec t (otherWinch w) = winchRec s (otherWinch w)
            ∧ t.dch =
                putPair s.dch (winchPair w)
                  { pairOf s.dch (winchPair w) with req1 := min 1000 haul, req2 := min 1000 pay }
            ∧ onlyChanges [.now, .cu, .dch] s t)
      ∧ (∀ cap, x.ownCap = some cap → x.capTimer = some d →
          ∃ t, exec (.capRepeatExpiry w) s = .next t ∧ t.now = max s.now d
            ∧ winchRec t w = { x with lastCap := some cap, capTimer := some (max s.now d + 1000000) }
            ∧ winchRec t (otherWinch w) = winchRec s (otherWinch w)
            ∧ t.tbi =
                queuedTbi at' (capSlot w) clsCap
                  (putU 1 (winchCode w) ++ putOptU 2 (some cap) ++ putU 2 x.lastTension) 200
            ∧ onlyChanges [.now, .tbi, .cu] s t)

/-! ### Fuel (chapter 6) -/

/-- One window of the open leg (R112 to R116): the truncated volume with its residue, the limit of 2^39 - 1 with
SATURATED, no volume lost while the limit is not reached, and a frozen leg left as it is. -/
def Obligations.FuelWindow : Prop :=
  ∀ (c : P4) (n : PulseCounts) (temp : Option Int) (k : Retained), (∀ t, temp = some t → -20 ≤ t ∧ t ≤ 90) →
    let f : Int := 10000 - 8 * (temp.getD 15 - 15)
    let raw : Int := (n.supply * c.kSupply : Nat) - (n.ret * c.kReturn : Nat)
    let rawFill : Int := (n.fill * c.kFill : Nat)
    let x : Int := raw * f + k.resC
    let y : Int := rawFill * f + k.resF
    let acc := k.accC + Int.tdiv x 10000
    let fill := k.accF + Int.tdiv y 10000
    let limit : Int := 549755813887
    let k' := windowStep c n temp k
    (k.flags.saturated = true → k' = k)
      ∧ (k.flags.saturated = false →
          k'.accC = max (-limit) (min limit acc) ∧ (k'.accF : Int) = min limit fill
            ∧ k'.resC = x - Int.tdiv x 10000 * 10000 ∧ (k'.resF : Int) = y - Int.tdiv y 10000 * 10000
            ∧ k'.resC.natAbs ≤ 9999 ∧ k'.resF ≤ 9999
            ∧ (-limit ≤ acc → acc ≤ limit → k'.accC * 10000 + k'.resC = k.accC * 10000 + k.resC + raw * f)
            ∧ (fill ≤ limit → (k'.accF : Int) * 10000 + k'.resF = k.accF * 10000 + k.resF + rawFill * f)
            ∧ k'.flags =
                { k.flags with
                  saturated := decide (limit < acc.natAbs ∨ limit < fill)
                  tempDefaulted := k.flags.tempDefaulted || temp.isNone
                  pulseOverrange :=
                    k.flags.pulseOverrange || decide (n.supply = 4095 ∨ n.ret = 4095 ∨ n.fill = 4095) }
            ∧ k' =
                { k with
                  accC := k'.accC, resC := k'.resC, accF := k'.accF, resF := k'.resF, flags := k'.flags })

/-- FAU_SCAN_COMPLETION: the window of R112 to R116, the ring of R118, the filtered level and V_now of R119, V_open
captured by R121, ACCOUNT_SATURATED latched at the saturation; nothing in LISTEN (R111). The sounding of R119
interpolates between table points, is V10 from the tank depth on, and never falls as the level rises. -/
def Obligations.FuelScan : Prop :=
  (∀ (s : State) (m : SampleSet), s.powered = true → s.ssq.sample = some m → s.due.fau = true →
      s.fau.ring.length ≤ 16 →
      let k := windowStep (cfg4 s) m.counts ((givenBy m.fuelTemp).map fun v => max (-20) (min 90 v)) s.fau.kept
      ∃ t, exec .fauScanCompletion s = .next t ∧ t.due = { s.due with fau := false }
        ∧ (s.sc.station = .listen → t.fau = s.fau ∧ t.tau = s.tau)
        ∧ (s.sc.station ≠ .listen →
            (∀ v, m.level.status = .good → m.level.value = some v →
                t.fau.ring = (if s.fau.ring.length < 16 then s.fau.ring else s.fau.ring.tail) ++ [v.toNat])
              ∧ (m.level.status = .suspect → t.fau.ring = s.fau.ring)
              ∧ (m.level.status = .noData ∨ m.level.status = .fault → t.fau.ring = [])
              ∧ t.fau.level = (if t.fau.ring.length = 16 then some (t.fau.ring.sum / 16) else none)
              ∧ t.fau.vNow = t.fau.level.map (sounding (cfg4 s))
              ∧ t.fau.kept = (if k.vOpen = none then { k with vOpen := t.fau.vNow } else k)
              ∧ (s.fau.check = retentionCrc s.fau.kept → t.fau.check = retentionCrc t.fau.kept)
              ∧ t.fau.recon = s.fau.recon ∧ t.fau.accountTimer = s.fau.accountTimer
              ∧ t.tau =
                  { s.tau with
                    latched :=
                      { s.tau.latched with
                        accountSaturated :=
                          s.tau.latched.accountSaturated
                            || decide (s.fau.kept.flags.saturated = false ∧ k.flags.saturated = true) } }
              ∧ (alarmPresent t .tankReserve = true ↔ ∃ v, t.fau.vNow = some v ∧ v < (cfg4 s).reserveL))
        ∧ onlyChanges [.due, .fau, .tau] s t)
    ∧ ∀ c : P4, (∀ i, i < 10 → c.volumes.getD i 0 ≤ c.volumes.getD (i + 1) 0) →
        (∀ level, c.depth ≤ level → sounding c level = c.volumes.getD 10 0)
          ∧ (∀ i level, i < 10 → i * c.depth ≤ 10 * level → 10 * level < (i + 1) * c.depth →
              sounding c level =
                  c.volumes.getD i 0
                    + (c.volumes.getD (i + 1) 0 - c.volumes.getD i 0) * (10 * level - i * c.depth) / c.depth
                ∧ c.volumes.getD i 0 ≤ sounding c level ∧ sounding c level ≤ c.volumes.getD (i + 1) 0)
          ∧ ∀ level level', level ≤ level' → sounding c level ≤ sounding c level'

/-- LEG moves the open leg by R124: the next number closes it, a later one closes it with GAP, the open number changes
nothing, an earlier one counts STALE_LEG. ACCOUNT_TIMER_EXPIRY evaluates the leg and updates the reconciliation count
(R122, R123), and queues ACCOUNT-CURRENT in JOINING, RUN and HOLD (R129). The moment of an expiry is log 2. -/
def Obligations.LegAndAccountTimer : Prop :=
  (∀ (s : State) (f : Frame), admits s f → f.cls = clsLeg → s.fau.kept.closed.length ≤ 4 →
      let n := BitVec.ofNat 16 (getU 2 0 f.payload)
      let now := s.fau.kept.leg
      (n = now → exec .leg s = .next (taken s))
        ∧ (n ≠ now → succeeds n now = true →
            ∃ t, exec .leg s = .next t ∧ legOpened s t n (decide (n ≠ now + 1)) ∧ onlyChanges [.tbi, .fau] s t)
        ∧ (n ≠ now → succeeds n now = false → exec .leg s = .next (count .staleLeg (taken s))))
    ∧ ∀ (s : State) (e : Nat), s.powered = true → s.fau.accountTimer = some e →
        let k := s.fau.kept
        let used_L := Int.tdiv k.accC 100000
        let fill := k.accF / 100000
        ∃ t, exec .accountTimerExpiry s = .next t ∧ t.now = max s.now e
          ∧ t.fau.accountTimer = some (e + 10000000)
          ∧ (s.fau.vNow = none ∨ k.vOpen = none →
              t.fau = { s.fau with accountTimer := t.fau.accountTimer, recon := 0 } ∧ t.tau = s.tau)
          ∧ (∀ v o, s.fau.vNow = some v → k.vOpen = some o →
              let d : Int := v - (o + fill - used_L)
              let over' := (cfg4 s).tolFixedL + (cfg4 s).tolPermille * (used_L.natAbs + fill) / 1000 < d.natAbs
              let third := over' ∧ 2 ≤ s.fau.recon
              t.fau =
                  { s.fau with
                    accountTimer := t.fau.accountTimer
                    recon := if over' ∧ ¬ third then s.fau.recon + 1 else 0
                    kept :=
                      { k with
                        d := some d, flags := { k.flags with discrepancy := k.flags.discrepancy || decide third } }
                    check := retentionCrc t.fau.kept }
                ∧ t.tau =
                  { s.tau with
                    latched :=
                      { s.tau.latched with fuelDiscrepancy := s.tau.latched.fuelDiscrepancy || decide third } })
          ∧ t.tbi =
              (if joined s.sc.station then
                queueTbi .accountCurrent
                  ⟨clsAccount, s.sc.number,
                    putAccount ⟨false, k.leg, used_L, fill, k.vOpen, s.fau.vNow, t.fau.kept.d, t.fau.kept.flags⟩⟩
                  (max s.now e + 10000000) s.tbi
               else s.tbi)
          ∧ onlyChanges [.now, .tbi, .fau, .tau] s t

/-! ### Sensing (chapter 8) -/

/-- The scan. SCAN_TRIGGER restarts the control timer; WAITING it latches and restarts the counters and begins the scan,
BUSY it counts SCAN_OVERRUN (R151, R152, R154). CONVERSION_END takes the sample of the channel in conversion, and the scan
goes on or completes (R153, R161). An interrupted conversion is discarded (R154). PULSE_EDGE counts up to 4095 at an
ENGINE-fitted station once a scan has started (R152). The moment of the trigger is log 2; the rpm with teeth
of 0 is free (log 37). -/
def Obligations.SensingScan : Prop :=
  ∀ (s : State) (pins : ScanPins), s.powered = true →
    (∀ d, s.ssq.controlTimer = some d →
        let u := { s with now := max s.now d, ssq := { s.ssq with controlTimer := some (d + 100000) } }
        (s.ssq.scan = .waiting →
            ∃ t, exec (.scanTrigger pins) s = .next t
              ∧ scanGoesOn
                  { u with ssq := { u.ssq with latched := s.ssq.pulses, pulses := ⟨0, 0, 0, 0⟩, heldClear := false } }
                  t 0 pins)
          ∧ (s.ssq.scan = .interrupted ∨ (∃ ch, s.ssq.scan = .busy ch) →
              exec (.scanTrigger pins) s = .next (count .scanOverrun u)))
      ∧ (∀ (ch : Channel) (raw : BitVec 12), s.ssq.scan = .busy ch →
          ∃ t, exec (.conversionEnd raw pins) s = .next t
            ∧ scanGoesOn
                { s with ssq := { s.ssq with channels := putChannel s.ssq.channels ch (channelStep s ch raw.toNat) } }
                t (channelRank ch + 1) pins)
      ∧ (s.ssq.scan = .interrupted →
          exec .interruptedConversionEnd s = .next
            { s with
              ssq := { s.ssq with scan := match s.ssq.controlTimer with | some _ => .waiting | none => .stopped } })
      ∧ ∀ i : PulseInput,
          let p := s.ssq.pulses
          (s.sc.fitted.engine = true → s.ssq.heldClear = false →
              exec (.pulseEdge i) s = .next
                { s with
                  ssq :=
                    { s.ssq with
                      pulses :=
                        match i with
                        | .speed => { p with speed := min 4095 (p.speed + 1) }
                        | .supply => { p with supply := min 4095 (p.supply + 1) }
                        | .ret => { p with ret := min 4095 (p.ret + 1) }
                        | .fill => { p with fill := min 4095 (p.fill + 1) } } })
            ∧ (s.sc.fitted.engine = false ∨ s.ssq.heldClear = true → exec (.pulseEdge i) s = .next s)

/-- A channel's record after a sample, by R155 and the table of R156; and the scaling of R158: the end points give the
calibrated figures, the result keeps within them, and it moves one way as the raw value rises. -/
def Obligations.ChannelRules : Prop :=
  (∀ (s : State) (ch : Channel) (raw : Nat),
      let r := channelOf s.ssq.channels ch
      let figure := figureOf s ch raw
      let q := channelStep s ch raw
      (205 ≤ raw ∧ raw ≤ 4000 →
          (r.status ≠ .fault → q = ⟨.good, some figure, some figure, 0, 0⟩)
            ∧ (r.status = .fault → 9 ≤ r.validRun → q = ⟨.good, some figure, some figure, 0, 0⟩)
            ∧ (r.status = .fault → r.validRun < 9 → q = { r with validRun := r.validRun + 1 }))
        ∧ (raw < 205 ∨ 4000 < raw →
            (r.status = .good → q = { r with status := .suspect, value := r.lastGood, invalidRun := 1 })
              ∧ (r.status = .noData ∨ r.status = .suspect → r.invalidRun < 4 →
                  q = { r with invalidRun := r.invalidRun + 1 })
              ∧ (r.status = .noData ∨ r.status = .suspect → 4 ≤ r.invalidRun →
                  q = { r with status := .fault, value := none, invalidRun := 0, validRun := 0 })
              ∧ (r.status = .fault → q = { r with validRun := 0 }))
        ∧ (ch = .l1 ∨ ch = .l2 → figure = raw)
        ∧ (ch = .rudder → figure = scale (cfg2 s).rudder raw)
        ∧ (ch = .tensionA → figure = scale (cfg3 s).tensionA raw)
        ∧ (ch = .tensionB → figure = scale (cfg3 s).tensionB raw)
        ∧ (ch = .level → figure = scale (cfg4 s).level raw)
        ∧ (ch = .fuelTemp → figure = scale (cfg4 s).fuelTemp raw))
    ∧ ∀ (c : CalPair) (raw raw' : Nat), c.rawMin < c.rawMax →
        let lo := min c.engMin c.engMax
        let hi := max c.engMin c.engMax
        scale c raw =
            max lo (min hi
              (c.engMin + Int.tdiv (((raw : Int) - c.rawMin) * (c.engMax - c.engMin)) ((c.rawMax : Int) - c.rawMin)))
          ∧ scale c c.rawMin = c.engMin ∧ scale c c.rawMax = c.engMax ∧ lo ≤ scale c raw ∧ scale c raw ≤ hi
          ∧ (raw ≤ raw' → c.engMin ≤ c.engMax → scale c raw ≤ scale c raw')
          ∧ (raw ≤ raw' → c.engMax ≤ c.engMin → scale c raw' ≤ scale c raw)

/-! ### Drive channels (chapter 9) -/

/-- PERIOD_BOUNDARY takes every request (R164 to R169, R172, R173): the governor duty, each pair by its larger request
and its dead-time, each brake line; nothing drives under the rest hold, without its machinery, under STEER_STOP, on the
side of an active end stop, or past a brake that is not fully released. DEAD_TIME_EXPIRY stops the pair's timer (R166).
A PWM output is on for as many µs from the boundary as its applied duty, never at 0, always at 1000 (R163). The gear
lines, the brake lines and CMD_LAMP are on by their requests, with their machinery fitted and the rest hold clear, and
FAULT by its request or without power (R169 to R173, section 12.7). The moment of both commands is log 2. -/
def Obligations.PeriodBoundary : Prop :=
  (∀ s : State, s.powered = true →
    let d := s.dch
    let f := s.sc.fitted
    let held := d.restHold
    let cut (on : Bool) (r : Nat) : Nat := if on then 0 else r
    let rudder :=
      if held = false ∧ f.rudder = true ∧ s.pins.steerStop = false then
        askedSide (cut s.pins.portLim d.rud.req1) (cut s.pins.stbdLim d.rud.req2)
      else none
    let winch (fitted : Bool) (b : Brake) (p : Pair) :=
      if held = false ∧ fitted = true ∧ b.line = true ∧ b.pending = false then askedSide p.req1 p.req2 else none
    (∃ t, exec .periodBoundary s = .next t ∧ t.now = max s.now d.boundaryAt
        ∧ t.dch.boundaryAt = d.boundaryAt + 1000
        ∧ t.dch.gov = { d.gov with app := if held = false ∧ f.engine = true then d.gov.req else 0 }
        ∧ pairAtBoundary (d.boundaryAt + (cfg2 s).deadTime) rudder d.rud t.dch.rud
        ∧ pairAtBoundary (d.boundaryAt + (cfg3 s).deadTime) (winch f.winchA d.brakeA d.wa) d.wa t.dch.wa
        ∧ pairAtBoundary (d.boundaryAt + (cfg3 s).deadTime) (winch f.winchB d.brakeB d.wb) d.wb t.dch.wb
        ∧ t.dch.brakeA = brakeAtBoundary d.brakeA t.dch.wa ∧ t.dch.brakeB = brakeAtBoundary d.brakeB t.dch.wb
        ∧ t.dch.gearReq = d.gearReq ∧ t.dch.lampReq = d.lampReq ∧ t.dch.faultReq = d.faultReq
        ∧ t.dch.restHold = d.restHold ∧ onlyChanges [.now, .dch] s t)
      ∧ (∀ (i : PairId) (e : Nat), (pairOf d i).dead = some e →
          exec (.deadTimeExpiry i) s = .next
            { s with now := max s.now e, dch := putPair d i { pairOf d i with dead := none } })
      ∧ ∀ x : PwmChannel,
          let duty :=
            match x with
            | .gov => d.gov.app
            | .rudPort => d.rud.app1 | .rudStbd => d.rud.app2
            | .haulA => d.wa.app1 | .payA => d.wa.app2
            | .haulB => d.wb.app1 | .payB => d.wb.app2
          (duty = 0 → outPwm s x = false) ∧ (1000 ≤ duty → outPwm s x = true)
            ∧ ∀ b k, d.boundaryAt = b + 1000 → s.now = b + k → k < 1000 → (outPwm s x = true ↔ k < duty))
    ∧ ∀ s : State,
        let f := s.sc.fitted
        (outGearAh s = true ↔ s.dch.restHold = false ∧ f.engine = true ∧ s.dch.gearReq = .ahead)
          ∧ (outGearAs s = true ↔ s.dch.restHold = false ∧ f.engine = true ∧ s.dch.gearReq = .astern)
          ∧ (∀ w, outBrake s w = true ↔ s.dch.restHold = false ∧ winchFitted f w = true ∧ (brakeOf s.dch w).line = true)
          ∧ (outLamp s = true ↔ s.dch.restHold = false ∧ f.helm = true ∧ s.dch.lampReq = true)
          ∧ (outFault s = true ↔ s.powered = false ∨ s.dch.faultReq = true)

/-! ### Station control (chapter 11) -/

/-- COMMISSION by the rows of R200 in their order; a block with every part staged is checked whole, RANGE by the fields of
R210 before ORDER, and written or refused; the required set, complete, locks the record and enters JOINING, where a
saturated leg and an active STEER_STOP are reported (R195, R198, R199, R111, R82). The order in which the units take the
entry before its STATUS is log 12; that STU settles by the sample set it has last taken is log 26; that the STATUS gives
the epoch in the helm part only is log 39. -/
def Obligations.Commission : Prop :=
  BlocksChecked ∧ StagingKept ∧ ∀ (s : State) (f : Frame), admits s f → f.cls = clsCommission →
    let named := namedBlock f
    let i := getU 1 1 f.payload
    let valid := validStation s.sc.number = true
    (¬ valid → exec .commission s = .next (commissionRefused s f named .state))
      ∧ (valid → s.sc.lock = true → exec .commission s = .next (commissionRefused s f named .locked))
      ∧ (valid → s.sc.lock = false → named = none → exec .commission s = .next (commissionRefused s f none .range))
      ∧ ∀ b, valid → s.sc.lock = false → named = some b →
          (blockPresent s.sc b = true → exec .commission s = .next (count .ignored (taken s)))
            ∧ (blockPresent s.sc b = false → blockRequired s.sc.fitted b = false →
                exec .commission s = .next (commissionRefused s f (some b) .notFitted))
            ∧ (blockPresent s.sc b = false → blockRequired s.sc.fitted b = true → i = 0 ∨ partCount b < i →
                exec .commission s = .next (commissionRefused s f (some b) .range))
            ∧ (blockPresent s.sc b = false → blockRequired s.sc.fitted b = true → 1 ≤ i → i ≤ partCount b →
                let c := partStaged s.sc b i (f.payload.drop 2)
                let d := stagingEmptied (writeBlock c b) b
                (blockReady c b = false → exec .commission s = .next { taken s with sc := c })
                  ∧ (∀ r, blockReady c b = true → blockFailure c b = some r →
                      exec .commission s = .next
                        { commissionRefused s f (some b) r with
                          sc := stagingEmptied { c with lastRefusal := some ⟨some b, r⟩ } b })
                  ∧ (blockReady c b = true → blockFailure c b = none → setComplete d = false →
                      exec .commission s = .next { taken s with sc := d })
                  ∧ (blockReady c b = true → blockFailure c b = none → setComplete d = true →
                      ∃ t, exec .commission s = .next t
                        ∧ t.sc =
                            { d with
                              lock := true, station := .joining
                              joinTimer := some (s.now + 300000 * (cfg1 t).period)
                              reportTimer := some (s.now + 1000 * (s.sc.number.toNat * ((cfg1 t).period * 100) / 32)) }
                        ∧ t.dch.restHold = false ∧ t.ssq.controlTimer = some s.now
                        ∧ t.ssq.scan = (if s.ssq.scan = .interrupted then .interrupted else .waiting)
                        ∧ t.hcu = { s.hcu with helmLossTimer := some (s.now + 1000000), helmLost := false }
                        ∧ (s.sc.fitted.engine = true →
                            t.tsu.aOwn = 0 ∧ t.tsu.sp = 0 ∧ t.tsu.dutyReq = (cfg1 t).idleDuty
                              ∧ t.fau = { s.fau with accountTimer := some (s.now + 10000000) })
                        ∧ rudderAtChange s t ∧ statusQueued (taken s).tbi t s.now
                        ∧ t.tau =
                            { s.tau with
                              latched :=
                                { s.tau.latched with
                                  accountSaturated :=
                                    s.tau.latched.accountSaturated
                                      || (s.sc.fitted.engine && s.fau.kept.flags.saturated)
                                  steerStop :=
                                    s.tau.latched.steerStop || (s.sc.fitted.rudder && s.pins.steerStop) } }
                        ∧ onlyChanges [.sc, .tbi, .hcu, .tsu, .stu, .fau, .tau, .ssq, .dch] s t))

/-- HOLD_STATION is refused HOLDER to the station in command, and else enters HOLD; RELEASE_STATION enters RUN from HOLD
(R202): TSU and STU take the change, the winches stay, a STATUS is queued. REPORT_TIMER_EXPIRY queues a STATUS and
restarts (R197). JOIN_TIMER_EXPIRY enters RUN, where the winches settle (R198, R90). Order within an entry: log 12, of the
winches: log 36; moment of an expiry: log 2. STU and the winches settle by the sample set each has last taken (log 26);
A_own with a rated_kW above 8000 is log 37, and that the epoch goes out in the helm part only log 39. -/
def Obligations.StationChanges : Prop :=
  (∀ (s : State) (f : Frame), admits s f → f.cls = clsCommand →
      let here := getU 1 1 f.payload = s.sc.number.toNat ∨ getU 1 1 f.payload = 255
      let enters (t : State) (st : StationState) : Prop :=
        t.sc = { s.sc with station := st } ∧ thrustAtChange s t ∧ rudderAtChange s t ∧ requestsAtChange s t
          ∧ statusQueued (taken s).tbi t s.now ∧ onlyChanges [.sc, .tbi, .tsu, .stu, .dch] s t
      (f.byte0 = 7 →
          (¬ here → exec .holdStation s = .next (taken s))
            ∧ (here → s.hcu.helm = .inCommand → exec .holdStation s = .next (refuse f .holder (taken s)))
            ∧ (here → s.hcu.helm ≠ .inCommand → ∃ t, exec .holdStation s = .next t ∧ enters t .hold))
        ∧ (f.byte0 = 8 →
            (¬ here → exec .releaseStation s = .next (taken s))
              ∧ (here → s.sc.station ≠ .hold → exec .releaseStation s = .next (refuse f .state (taken s)))
              ∧ (here → s.sc.station = .hold → ∃ t, exec .releaseStation s = .next t ∧ enters t .run)))
    ∧ (∀ (s : State) (d : Nat), s.powered = true → s.sc.reportTimer = some d →
        let p := if s.sc.station = .listen then 1000000 else 100000 * (cfg1 s).period
        let bytes :=
          if s.sc.station = .listen then
            putShortStatus s.sc.fitted
              ⟨acceptedMask s.sc, s.sc.lastRefusal.bind (·.block), s.sc.lastRefusal.map (·.reason)⟩
          else putFullStatus (stationReport s)
        exec .reportTimerExpiry s = .next
          { s with
            now := max s.now d, sc := { s.sc with reportTimer := some (d + p) }
            tbi := queueTbi .status ⟨clsStatus, s.sc.number, bytes⟩ (max s.now d + p) s.tbi })
    ∧ ∀ (s : State) (d : Nat), s.powered = true → s.sc.joinTimer = some d →
        ∃ u v w t, exec .joinTimerExpiry s = .next t ∧ u.now = max s.now d
          ∧ u.sc = { s.sc with station := .run, joinTimer := none }
          ∧ thrustAtChange s u ∧ rudderAtChange s u ∧ requestsAtChange s u
          ∧ onlyChanges [.now, .sc, .tsu, .stu, .dch] s u ∧ winchJoins u v .a ∧ winchJoins v w .b
          ∧ statusQueued w.tbi t (max s.now d) ∧ t = { w with tbi := t.tbi }

/-! ### Queries (section 10.9) -/

/-- A QUERY for this station joins the REPLY queue, or counts REPLY_BUSY while four wait; another station's is taken and
changes nothing (R189). The reply leads with requester, subject, argument, page and page count, holds at most 40 bytes,
and is empty beyond the count (R209); the contents of each subject follow. The alarm set is that of R143, and its mask has
each alarm at its bit of R206. The bytes of an absent last refusal, trip record or leg are log 18, those of a CONVOY_FUEL
sum beyond 32 bits are free (log 34); the coding of the trip latch and lock bytes is log 42. -/
def Obligations.Queries : Prop :=
  (∀ (s : State) (a : Alarm),
      (alarmPresent s a = true ↔ alarmHolds s a) ∧ ((alarmMask s).getLsbD (maskBit a) = true ↔ alarmHolds s a))
  ∧ ∀ (s : State) (f : Frame) (x : Subject), admits s f → f.cls = clsQuery → subjectOf (getU 1 1 f.payload) = some x →
    let row : Instr :=
      match x with
      | .counters => .queryCounters
      | .alarms => .queryAlarms
      | .peer => .queryPeer
      | .leg => .queryLeg
      | .convoyFuel => .queryConvoyFuel
      | .commission => .queryCommission
    let u := taken s
    let arg := getU 1 2 f.payload
    let page := getU 1 3 f.payload
    let pages := if x = .peer then 3 else 1
    let r := if 1 ≤ arg ∧ arg ≤ 30 ∧ arg ≠ s.sc.number.toNat then peer s (BitVec.ofNat 5 arg) else recordAbsent
    let bit (b : Bool) (n : Nat) : Nat := if b then n else 0
    (getU 1 0 f.payload ≠ s.sc.number.toNat → exec row s = .next u)
      ∧ (getU 1 0 f.payload = s.sc.number.toNat → 4 ≤ s.tbi.replies.length →
          exec row s = .next (count .replyBusy u))
      ∧ (getU 1 0 f.payload = s.sc.number.toNat → s.tbi.replies.length < 4 →
          ∃ t bytes, exec row s = .next t ∧ onlyChanges [.freeSeq, .tbi] s t
            ∧ t.tbi =
                { u.tbi with
                  replies :=
                    s.tbi.replies
                      ++ [⟨⟨clsReply, s.sc.number,
                            putU 1 f.sender.toNat ++ putU 1 (getU 1 1 f.payload) ++ putU 1 arg ++ putU 1 page
                              ++ putU 1 pages ++ bytes⟩, s.tbi.nextSeq, s.now + 1000000⟩]
                  nextSeq := s.tbi.nextSeq + 1 }
            ∧ bytes.length ≤ 35 ∧ (pages ≤ page → bytes = [])
            ∧ (x = .counters → page = 0 → ∀ q, s.tbi.lastRefusal = some q →
                bytes =
                  (counterList u.tbi.counters).flatMap (putU 2) ++ putU 1 q.cls.toNat ++ putU 1 q.sender.toNat
                    ++ putU 1 (reasonCode (some q.reason)))
            ∧ (x = .counters → page = 0 → s.tbi.lastRefusal = none →
                bytes = (counterList u.tbi.counters).flatMap (putU 2) ++ [255, 255, 0])
            ∧ (x = .alarms → page = 0 →
                bytes =
                  putU 4 (alarmMask s).toNat
                    ++ putU 1
                        (bit s.tau.latched.partedA 1 + bit s.tau.latched.partedB 2 + bit s.tau.latched.takeupFailedA 4
                          + bit s.tau.latched.takeupFailedB 8)
                    ++ putU 1 (bit s.tau.latch 1)
                    ++ (match s.tau.record with
                        | none => [0, 255, 0]
                        | some q =>
                          putU 1 (causeCode q.cause) ++ putU 1 q.origin.toNat
                            ++ putU 1 (match q.winch with | none => 0 | some .a => 1 | some .b => 2)))
            ∧ (x = .peer → page = 0 →
                bytes =
                  putU 1 (bit r.core.isSome 1 + bit r.engine.isSome 2 + bit r.rudder.isSome 4)
                    ++ putU 1 (peerStateCode r.state)
                    ++ putU 2
                        (match r.core with
                         | some c => if r.state = .absent then 65535 else min 65535 ((s.now - c.lastStatus) / 1000)
                         | none => 65535)
                    ++ putPart putCore r.core ++ putPart putEngine r.engine ++ putPart putRudder r.rudder)
            ∧ (x = .peer → page = 1 →
                bytes =
                  putU 1
                      (bit r.winchA.isSome 1 + bit r.winchB.isSome 2 + bit r.helm.isSome 4 + bit r.commissioning.isSome 8)
                    ++ putPart putWinch r.winchA ++ putPart putWinch r.winchB ++ putPart putHelm r.helm
                    ++ putPart putComm r.commissioning)
            ∧ (x = .peer → page = 2 →
                bytes = putU 1 (bit r.account.isSome 1) ++ putPart putAccount r.account)
            ∧ (x = .leg → page = 0 →
                bytes =
                  putPart putClosed
                    (if s.sc.fitted.engine = true ∧ arg ≤ 3 then s.fau.kept.closed.reverse[arg]? else none))
            ∧ (x = .convoyFuel → page = 0 → s.sc.fitted.engine = true →
                let same := (accountSet s).filter fun a => decide (a.leg = s.fau.kept.leg)
                let sum := Int.tdiv s.fau.kept.accC 100000 + (same.map (·.consumed)).sum
                bytes =
                  putU 1 1 ++ putU 2 s.fau.kept.leg.toNat
                    ++ (if -2147483648 ≤ sum ∧ sum ≤ 2147483647 then putS 4 sum else putU 4 (Config.wideSum sum).toNat)
                    ++ putU 1 (1 + same.length))
            ∧ (x = .convoyFuel → page = 0 → s.sc.fitted.engine = false →
                bytes = putU 1 0 ++ putU 2 (Config.absentLeg s.freeSeq).toNat ++ putS 4 0 ++ putU 1 0)
            ∧ t.freeSeq = (if x = .convoyFuel ∧ s.sc.fitted.engine = false then s.freeSeq + 1 else s.freeSeq)
            ∧ (x = .commission → page = 0 →
                bytes =
                  putU 1 (acceptedMask s.sc).toNat ++ putU 1 (bit s.sc.lock 1)
                    ++ putU 1 (blockCode (s.sc.lastRefusal.bind (·.block)))
                    ++ putU 1 (reasonCode (s.sc.lastRefusal.map (·.reason)))))

/-! ### Payloads read back (chapter 12) -/

/-- A full STATUS is read back from its bytes with its numeric fields clamped, and one within its ranges as it was written
(R186); a short STATUS and an ACCOUNT are read back as they were written; their lengths are valid for the class and their
enumerations name values (R205 to R208). The parts of a COMMISSION are read by the layout of R210. That the litres of an
ACCOUNT are not clamped is log 17, that bits 6 and 7 of its flags are sent 0 log 43, which enumerations are held to values log 16, eng_max signed log 15. -/
def Obligations.PayloadRoundTrips : Prop :=
  (∀ (limit : Nat) (r : FullStatus),
      r.reported = .joining ∨ r.reported = .run ∨ r.reported = .hold → r.period ≤ 255 →
      r.engine.isSome = r.fitted.engine → r.rudder.isSome = r.fitted.rudder → r.winchA.isSome = r.fitted.winchA →
      r.winchB.isSome = r.fitted.winchB → r.helm.isSome = r.fitted.helm →
      (∀ e, r.engine = some e → e.power ≤ 65535 ∧ -32768 ≤ e.sp ∧ e.sp ≤ 32767) →
      (∀ e, r.rudder = some e → -32768 ≤ e.angle ∧ e.angle ≤ 32767 ∧ e.gain ≤ 65535) →
      (∀ w, r.winchA = some w ∨ r.winchB = some w → w.tension ≤ 65535 ∧ ∀ k, w.cap = some k → k < 65535) →
      getStatus limit (putFullStatus r) = .full (clampedStatus limit r)
        ∧ lengthValid clsStatus (putFullStatus r) = true ∧ statusFieldsOk (putFullStatus r) = true
        ∧ (2 ≤ r.period → r.period ≤ 10 → (∀ e, r.engine = some e → e.power ≤ 8000 ∧ e.sp.natAbs ≤ 8000) →
            (∀ e, r.rudder = some e → e.angle.natAbs ≤ 1800 ∧ e.gain ≤ 1000) →
            (∀ w, r.winchA = some w ∨ r.winchB = some w → w.tension ≤ 4000 ∧ ∀ k, w.cap = some k → k ≤ limit) →
            getStatus limit (putFullStatus r) = .full r))
    ∧ (∀ (limit : Nat) (m : Fitted) (k : CommPart),
        getStatus limit (putShortStatus m k) = .short m k ∧ lengthValid clsStatus (putShortStatus m k) = true
          ∧ statusFieldsOk (putShortStatus m k) = true)
    ∧ (∀ a : Account, -2147483648 ≤ a.consumed → a.consumed ≤ 2147483647 → a.fill ≤ 4294967295 →
        (∀ v, a.vOpen = some v ∨ a.vNow = some v → v < 4294967295) →
        (∀ d, a.d = some d → -2147483648 < d ∧ d ≤ 2147483647) →
        getAccount (putAccount a) = a ∧ lengthValid clsAccount (putAccount a) = true)
    ∧ (∀ x : P1, (∀ g ∈ p1Fields true x, g.fits) →
        getP1 (partOf (p1Fields true x)) = x ∧ (partOf (p1Fields true x)).length = 30)
    ∧ (∀ (x : P2) (rest : Nat), rest < 256 → (∀ g ∈ p2Fields rest x, g.fits) →
        x.rest = (if rest = 2 then .centre else .holdPosition) →
        getP2 (partOf (p2Fields rest x)) = x ∧ getU 1 17 (partOf (p2Fields rest x)) = rest
          ∧ (partOf (p2Fields rest x)).length = 27)
    ∧ (∀ x : P3, (∀ g ∈ p3Fields x ++ p3Pairs x, g.fits) →
        getP3 (partOf (p3Fields x)) (partOf (p3Pairs x)) = x ∧ (partOf (p3Fields x)).length = 24
          ∧ (partOf (p3Pairs x)).length = 16)
    ∧ (∀ x : P4, x.volumes.length = 11 → (∀ g ∈ p4Fields x ++ p4Volumes x, g.fits) →
        getP4 (partOf (p4Fields x)) (partOf (p4Volumes x)) = x ∧ (partOf (p4Fields x)).length = 31
          ∧ (partOf (p4Volumes x)).length = 33)
    ∧ ∀ x : P5, (∀ g ∈ p5Fields x, g.fits) →
        getP5 (partOf (p5Fields x)) = x ∧ (partOf (p5Fields x)).length = 18

/-! ### What every step keeps -/

/-- Every step keeps the drive conditions: one output of a coupled pair (R165), duties within 0..1000 and the latest
boundary not ahead (R163, R164), a winch drive with its brake released only (R169), FAULT requested exactly in SAFE, in
MUTE and with an invalid number (R148); and the join timer runs in JOINING only (R198). The moments of boundaries are
logs 2 and 10. -/
def Obligations.StepKeepsDrive : Prop :=
  ∀ s t : State, pairsExclusive s ∧ drivesBounded s ∧ brakesInterlocked s ∧ faultExact s ∧ joiningTimed s →
    step s = .next t → pairsExclusive t ∧ drivesBounded t ∧ brakesInterlocked t ∧ faultExact t ∧ joiningTimed t

/-- Every step keeps: deliveries for fitted machinery only (R161; log 24), sp within A_own and 0 outside RUN and HOLD,
under the trip latch and without ENGINE (R42, R52, R63), the gear request of the gear state and a set-point of its sign
(R54, R170), the rudder's responsive flag and a single coil request (R70, R74). -/
def Obligations.StepKeepsThrustAndRudder : Prop :=
  ∀ s t : State, deliveriesFitted s ∧ setPointBounded s ∧ gearConsistent s ∧ rudderConsistent s → step s = .next t →
    deliveriesFitted t ∧ setPointBounded t ∧ gearConsistent t ∧ rudderConsistent t

/-- Every step keeps: the station in command as the recorded holder, and a valid record with a holder and a running timer
(R21, R35, R37, R39); each winch's cap, phase, timers and brake as its state asks, at rest outside RUN and HOLD (R87, R90,
R98, R101); the own causes, the repeat timer and the latch in step with the parted winches (R136 to R139). That a delivery
waits at a fitted unit only is log 24. -/
def Obligations.StepKeepsHelmAndCouplings : Prop :=
  ∀ s t : State, helmConsistent s ∧ couplingConsistent s ∧ causesConsistent s → step s = .next t →
    helmConsistent t ∧ couplingConsistent t ∧ causesConsistent t

/-- Every step keeps: the own peer record ABSENT and every record as R2, R3 and R9 have it; the counters of SSQ and of the
line within range (R152, R191); channel records by R156 and R157; the queues, the abort count and the frame in flight
(R178 to R183). That a record in STALE keeps its deadlines is log 32. -/
def Obligations.StepKeepsTablesAndLine : Prop :=
  ∀ s t : State,
    ownRecordAbsent s ∧ recordsConsistent s ∧ pulsesBounded s ∧ channelsConsistent s ∧ countersBounded s
      ∧ lineConsistent s →
    step s = .next t →
    ownRecordAbsent t ∧ recordsConsistent t ∧ pulsesBounded t ∧ channelsConsistent t ∧ countersBounded t
      ∧ lineConsistent t

/-- Every step but a supply failure that loses the retention contents (R133) keeps the fuel account: closed legs in serial
order before the open one (R127), accumulators and residues in range (R110), the level ring (R118), the check word (R133).
With the lock set, every step but a power-on reset keeps the commissioning record and the lock (R195). -/
def Obligations.StepKeepsAccountAndRecord : Prop :=
  (∀ s t : State, ¬ lossOfRetention s →
      legsOrdered s.fau.kept ∧ accountBounded s.fau.kept ∧ levelConsistent s.fau
        ∧ s.fau.check = retentionCrc s.fau.kept →
      step s = .next t →
      legsOrdered t.fau.kept ∧ accountBounded t.fau.kept ∧ levelConsistent t.fau
        ∧ t.fau.check = retentionCrc t.fau.kept)
    ∧ ∀ s t : State, s.sc.lock = true → (∀ n m rest, s.pending ≠ Instr.powerOnReset n m :: rest) → step s = .next t →
        sameRecord s.sc t.sc

/-- The state after reset meets every condition that the steps keep. -/
def Obligations.ResetMeetsConditions : Prop :=
  let s := State.reset
  (pairsExclusive s ∧ drivesBounded s ∧ brakesInterlocked s ∧ faultExact s ∧ joiningTimed s)
    ∧ (deliveriesFitted s ∧ setPointBounded s ∧ gearConsistent s ∧ rudderConsistent s)
    ∧ (helmConsistent s ∧ couplingConsistent s ∧ causesConsistent s)
    ∧ (ownRecordAbsent s ∧ recordsConsistent s ∧ pulsesBounded s ∧ channelsConsistent s ∧ countersBounded s
        ∧ lineConsistent s)
    ∧ (legsOrdered s.fau.kept ∧ accountBounded s.fau.kept ∧ levelConsistent s.fau
        ∧ s.fau.check = retentionCrc s.fau.kept)
end

