-- ==== Sys2Proof/Laws/State.lean ====
section
/-! SUPPORT. What the operations of Machine/Ops.lean and the plain updates leave unchanged: one equation for each untouched field. -/

namespace Sys2Proof.Machine

open Sys2Proof

@[simp] theorem reach_frame (t : Nat) (s : State) :
    (reach t s).pending = s.pending ∧ (reach t s).powered = s.powered ∧ (reach t s).freeSeq = s.freeSeq
    ∧ (reach t s).due = s.due ∧ (reach t s).pins = s.pins ∧ (reach t s).sc = s.sc ∧ (reach t s).tbi = s.tbi
    ∧ (reach t s).pt = s.pt ∧ (reach t s).hcu = s.hcu ∧ (reach t s).tsu = s.tsu ∧ (reach t s).stu = s.stu
    ∧ (reach t s).cu = s.cu ∧ (reach t s).fau = s.fau ∧ (reach t s).tau = s.tau ∧ (reach t s).ssq = s.ssq
    ∧ (reach t s).dch = s.dch := by
  simp [reach]

@[simp] theorem count_frame (c : Counter) (s : State) :
    (count c s).pending = s.pending ∧ (count c s).powered = s.powered ∧ (count c s).now = s.now
    ∧ (count c s).freeSeq = s.freeSeq ∧ (count c s).due = s.due ∧ (count c s).pins = s.pins
    ∧ (count c s).sc = s.sc ∧ (count c s).pt = s.pt ∧ (count c s).hcu = s.hcu ∧ (count c s).tsu = s.tsu
    ∧ (count c s).stu = s.stu ∧ (count c s).cu = s.cu ∧ (count c s).fau = s.fau ∧ (count c s).tau = s.tau
    ∧ (count c s).ssq = s.ssq ∧ (count c s).dch = s.dch := by
  simp [count]

@[simp] theorem refuse_frame (f : Frame) (r : Reason) (s : State) :
    (refuse f r s).pending = s.pending ∧ (refuse f r s).powered = s.powered ∧ (refuse f r s).now = s.now
    ∧ (refuse f r s).freeSeq = s.freeSeq ∧ (refuse f r s).due = s.due ∧ (refuse f r s).pins = s.pins
    ∧ (refuse f r s).sc = s.sc ∧ (refuse f r s).pt = s.pt ∧ (refuse f r s).hcu = s.hcu
    ∧ (refuse f r s).tsu = s.tsu ∧ (refuse f r s).stu = s.stu ∧ (refuse f r s).cu = s.cu
    ∧ (refuse f r s).fau = s.fau ∧ (refuse f r s).tau = s.tau ∧ (refuse f r s).ssq = s.ssq
    ∧ (refuse f r s).dch = s.dch := by
  simp [refuse]

@[simp] theorem queueFrame_frame (k : TxSlot) (c : BitVec 4) (p : List Byte) (n : Nat) (s : State) :
    (queueFrame k c p n s).pending = s.pending ∧ (queueFrame k c p n s).powered = s.powered
    ∧ (queueFrame k c p n s).now = s.now ∧ (queueFrame k c p n s).freeSeq = s.freeSeq
    ∧ (queueFrame k c p n s).due = s.due ∧ (queueFrame k c p n s).pins = s.pins
    ∧ (queueFrame k c p n s).sc = s.sc ∧ (queueFrame k c p n s).pt = s.pt ∧ (queueFrame k c p n s).hcu = s.hcu
    ∧ (queueFrame k c p n s).tsu = s.tsu ∧ (queueFrame k c p n s).stu = s.stu ∧ (queueFrame k c p n s).cu = s.cu
    ∧ (queueFrame k c p n s).fau = s.fau ∧ (queueFrame k c p n s).tau = s.tau
    ∧ (queueFrame k c p n s).ssq = s.ssq ∧ (queueFrame k c p n s).dch = s.dch := by
  simp [queueFrame]

@[simp] theorem onLatched_frame (f : Latched → Latched) (s : State) :
    (onLatched f s).pending = s.pending ∧ (onLatched f s).powered = s.powered ∧ (onLatched f s).now = s.now
    ∧ (onLatched f s).freeSeq = s.freeSeq ∧ (onLatched f s).due = s.due ∧ (onLatched f s).pins = s.pins
    ∧ (onLatched f s).sc = s.sc ∧ (onLatched f s).tbi = s.tbi ∧ (onLatched f s).pt = s.pt
    ∧ (onLatched f s).hcu = s.hcu ∧ (onLatched f s).tsu = s.tsu ∧ (onLatched f s).stu = s.stu
    ∧ (onLatched f s).cu = s.cu ∧ (onLatched f s).fau = s.fau ∧ (onLatched f s).ssq = s.ssq
    ∧ (onLatched f s).dch = s.dch := by
  simp [onLatched]

@[simp] theorem syncFault_frame (s : State) :
    (syncFault s).pending = s.pending ∧ (syncFault s).powered = s.powered ∧ (syncFault s).now = s.now
    ∧ (syncFault s).freeSeq = s.freeSeq ∧ (syncFault s).due = s.due ∧ (syncFault s).pins = s.pins
    ∧ (syncFault s).sc = s.sc ∧ (syncFault s).tbi = s.tbi ∧ (syncFault s).pt = s.pt ∧ (syncFault s).hcu = s.hcu
    ∧ (syncFault s).tsu = s.tsu ∧ (syncFault s).stu = s.stu ∧ (syncFault s).cu = s.cu
    ∧ (syncFault s).fau = s.fau ∧ (syncFault s).tau = s.tau ∧ (syncFault s).ssq = s.ssq := by
  simp [syncFault]

@[simp] theorem onTbi_frame (f : Tbi → Tbi) (s : State) :
    (onTbi f s).pending = s.pending ∧ (onTbi f s).powered = s.powered ∧ (onTbi f s).now = s.now
    ∧ (onTbi f s).freeSeq = s.freeSeq ∧ (onTbi f s).due = s.due ∧ (onTbi f s).pins = s.pins
    ∧ (onTbi f s).sc = s.sc ∧ (onTbi f s).pt = s.pt ∧ (onTbi f s).hcu = s.hcu ∧ (onTbi f s).tsu = s.tsu
    ∧ (onTbi f s).stu = s.stu ∧ (onTbi f s).cu = s.cu ∧ (onTbi f s).fau = s.fau ∧ (onTbi f s).tau = s.tau
    ∧ (onTbi f s).ssq = s.ssq ∧ (onTbi f s).dch = s.dch := by
  simp [onTbi]

@[simp] theorem dequeue_frame (s : State) :
    (dequeue s).pending = s.pending ∧ (dequeue s).powered = s.powered ∧ (dequeue s).now = s.now
    ∧ (dequeue s).freeSeq = s.freeSeq ∧ (dequeue s).due = s.due ∧ (dequeue s).pins = s.pins
    ∧ (dequeue s).sc = s.sc ∧ (dequeue s).pt = s.pt ∧ (dequeue s).hcu = s.hcu ∧ (dequeue s).tsu = s.tsu
    ∧ (dequeue s).stu = s.stu ∧ (dequeue s).cu = s.cu ∧ (dequeue s).fau = s.fau ∧ (dequeue s).tau = s.tau
    ∧ (dequeue s).ssq = s.ssq ∧ (dequeue s).dch = s.dch := by
  simp [dequeue]

end Sys2Proof.Machine
end

