-- ==== Sys2Proof/Laws/Units.lean ====
section
/-! SUPPORT. What the shared operations of the units leave unchanged: one equation for each untouched field. -/

namespace Sys2Proof.Machine

open Sys2Proof

@[simp] theorem commitTsu_frame (x : Tsu) (s : State) :
    (commitTsu x s).pending = s.pending ∧ (commitTsu x s).powered = s.powered ∧ (commitTsu x s).now = s.now
    ∧ (commitTsu x s).freeSeq = s.freeSeq ∧ (commitTsu x s).due = s.due ∧ (commitTsu x s).pins = s.pins
    ∧ (commitTsu x s).sc = s.sc ∧ (commitTsu x s).tbi = s.tbi ∧ (commitTsu x s).pt = s.pt
    ∧ (commitTsu x s).hcu = s.hcu ∧ (commitTsu x s).stu = s.stu ∧ (commitTsu x s).cu = s.cu
    ∧ (commitTsu x s).fau = s.fau ∧ (commitTsu x s).tau = s.tau ∧ (commitTsu x s).ssq = s.ssq := by
  simp [commitTsu]

@[simp] theorem engineFaultEvent_frame (x y : Tsu) (s : State) :
    (engineFaultEvent x y s).pending = s.pending ∧ (engineFaultEvent x y s).powered = s.powered
    ∧ (engineFaultEvent x y s).now = s.now ∧ (engineFaultEvent x y s).freeSeq = s.freeSeq
    ∧ (engineFaultEvent x y s).due = s.due ∧ (engineFaultEvent x y s).pins = s.pins
    ∧ (engineFaultEvent x y s).sc = s.sc ∧ (engineFaultEvent x y s).tbi = s.tbi
    ∧ (engineFaultEvent x y s).pt = s.pt ∧ (engineFaultEvent x y s).hcu = s.hcu
    ∧ (engineFaultEvent x y s).tsu = s.tsu ∧ (engineFaultEvent x y s).stu = s.stu
    ∧ (engineFaultEvent x y s).cu = s.cu ∧ (engineFaultEvent x y s).fau = s.fau
    ∧ (engineFaultEvent x y s).ssq = s.ssq ∧ (engineFaultEvent x y s).dch = s.dch := by
  simp [engineFaultEvent]

@[simp] theorem tsuScan_frame (n : Nat) (s : State) :
    (tsuScan n s).pending = s.pending ∧ (tsuScan n s).powered = s.powered ∧ (tsuScan n s).now = s.now
    ∧ (tsuScan n s).freeSeq = s.freeSeq ∧ (tsuScan n s).due = s.due ∧ (tsuScan n s).pins = s.pins
    ∧ (tsuScan n s).sc = s.sc ∧ (tsuScan n s).tbi = s.tbi ∧ (tsuScan n s).pt = s.pt ∧ (tsuScan n s).hcu = s.hcu
    ∧ (tsuScan n s).stu = s.stu ∧ (tsuScan n s).cu = s.cu ∧ (tsuScan n s).fau = s.fau
    ∧ (tsuScan n s).ssq = s.ssq := by
  unfold tsuScan
  split <;> simp

@[simp] theorem tsuChange_frame (s : State) :
    (tsuChange s).pending = s.pending ∧ (tsuChange s).powered = s.powered ∧ (tsuChange s).now = s.now
    ∧ (tsuChange s).freeSeq = s.freeSeq ∧ (tsuChange s).due = s.due ∧ (tsuChange s).pins = s.pins
    ∧ (tsuChange s).sc = s.sc ∧ (tsuChange s).tbi = s.tbi ∧ (tsuChange s).pt = s.pt ∧ (tsuChange s).hcu = s.hcu
    ∧ (tsuChange s).stu = s.stu ∧ (tsuChange s).cu = s.cu ∧ (tsuChange s).fau = s.fau
    ∧ (tsuChange s).tau = s.tau ∧ (tsuChange s).ssq = s.ssq := by
  unfold tsuChange
  split <;> simp

@[simp] theorem tsuTrip_frame (s : State) :
    (tsuTrip s).pending = s.pending ∧ (tsuTrip s).powered = s.powered ∧ (tsuTrip s).now = s.now
    ∧ (tsuTrip s).freeSeq = s.freeSeq ∧ (tsuTrip s).due = s.due ∧ (tsuTrip s).pins = s.pins
    ∧ (tsuTrip s).sc = s.sc ∧ (tsuTrip s).tbi = s.tbi ∧ (tsuTrip s).pt = s.pt ∧ (tsuTrip s).hcu = s.hcu
    ∧ (tsuTrip s).stu = s.stu ∧ (tsuTrip s).cu = s.cu ∧ (tsuTrip s).fau = s.fau ∧ (tsuTrip s).tau = s.tau
    ∧ (tsuTrip s).ssq = s.ssq := by
  unfold tsuTrip
  split <;> simp

@[simp] theorem commitStu_frame (x : Stu) (s : State) :
    (commitStu x s).pending = s.pending ∧ (commitStu x s).powered = s.powered ∧ (commitStu x s).now = s.now
    ∧ (commitStu x s).freeSeq = s.freeSeq ∧ (commitStu x s).due = s.due ∧ (commitStu x s).pins = s.pins
    ∧ (commitStu x s).sc = s.sc ∧ (commitStu x s).tbi = s.tbi ∧ (commitStu x s).pt = s.pt
    ∧ (commitStu x s).hcu = s.hcu ∧ (commitStu x s).tsu = s.tsu ∧ (commitStu x s).cu = s.cu
    ∧ (commitStu x s).fau = s.fau ∧ (commitStu x s).tau = s.tau ∧ (commitStu x s).ssq = s.ssq := by
  simp [commitStu]

@[simp] theorem stuScan_frame (m : SampleSet) (s : State) :
    (stuScan m s).pending = s.pending ∧ (stuScan m s).powered = s.powered ∧ (stuScan m s).now = s.now
    ∧ (stuScan m s).freeSeq = s.freeSeq ∧ (stuScan m s).due = s.due ∧ (stuScan m s).pins = s.pins
    ∧ (stuScan m s).sc = s.sc ∧ (stuScan m s).tbi = s.tbi ∧ (stuScan m s).pt = s.pt ∧ (stuScan m s).hcu = s.hcu
    ∧ (stuScan m s).tsu = s.tsu ∧ (stuScan m s).cu = s.cu ∧ (stuScan m s).fau = s.fau
    ∧ (stuScan m s).tau = s.tau ∧ (stuScan m s).ssq = s.ssq := by
  unfold stuScan
  split <;> simp

@[simp] theorem stuChange_frame (s : State) :
    (stuChange s).pending = s.pending ∧ (stuChange s).powered = s.powered ∧ (stuChange s).now = s.now
    ∧ (stuChange s).freeSeq = s.freeSeq ∧ (stuChange s).due = s.due ∧ (stuChange s).pins = s.pins
    ∧ (stuChange s).sc = s.sc ∧ (stuChange s).tbi = s.tbi ∧ (stuChange s).pt = s.pt ∧ (stuChange s).hcu = s.hcu
    ∧ (stuChange s).tsu = s.tsu ∧ (stuChange s).cu = s.cu ∧ (stuChange s).fau = s.fau
    ∧ (stuChange s).ssq = s.ssq := by
  unfold stuChange
  split <;> simp

@[simp] theorem stuAckJam_frame (s : State) :
    (stuAckJam s).pending = s.pending ∧ (stuAckJam s).powered = s.powered ∧ (stuAckJam s).now = s.now
    ∧ (stuAckJam s).freeSeq = s.freeSeq ∧ (stuAckJam s).due = s.due ∧ (stuAckJam s).pins = s.pins
    ∧ (stuAckJam s).sc = s.sc ∧ (stuAckJam s).tbi = s.tbi ∧ (stuAckJam s).pt = s.pt ∧ (stuAckJam s).hcu = s.hcu
    ∧ (stuAckJam s).tsu = s.tsu ∧ (stuAckJam s).cu = s.cu ∧ (stuAckJam s).fau = s.fau
    ∧ (stuAckJam s).tau = s.tau ∧ (stuAckJam s).ssq = s.ssq := by
  unfold stuAckJam
  split <;> simp

@[simp] theorem cutRudder_frame (s : State) :
    (cutRudder s).pending = s.pending ∧ (cutRudder s).powered = s.powered ∧ (cutRudder s).now = s.now
    ∧ (cutRudder s).freeSeq = s.freeSeq ∧ (cutRudder s).due = s.due ∧ (cutRudder s).pins = s.pins
    ∧ (cutRudder s).sc = s.sc ∧ (cutRudder s).tbi = s.tbi ∧ (cutRudder s).pt = s.pt ∧ (cutRudder s).hcu = s.hcu
    ∧ (cutRudder s).tsu = s.tsu ∧ (cutRudder s).stu = s.stu ∧ (cutRudder s).cu = s.cu
    ∧ (cutRudder s).fau = s.fau ∧ (cutRudder s).tau = s.tau ∧ (cutRudder s).ssq = s.ssq := by
  simp [cutRudder]

@[simp] theorem stuStop_frame (s : State) :
    (stuStop s).pending = s.pending ∧ (stuStop s).powered = s.powered ∧ (stuStop s).now = s.now
    ∧ (stuStop s).freeSeq = s.freeSeq ∧ (stuStop s).due = s.due ∧ (stuStop s).pins = s.pins
    ∧ (stuStop s).sc = s.sc ∧ (stuStop s).tbi = s.tbi ∧ (stuStop s).pt = s.pt ∧ (stuStop s).hcu = s.hcu
    ∧ (stuStop s).tsu = s.tsu ∧ (stuStop s).cu = s.cu ∧ (stuStop s).fau = s.fau ∧ (stuStop s).ssq = s.ssq := by
  unfold stuStop
  repeat' split
  all_goals simp

@[simp] theorem onWinch_frame (w : WinchId) (f : Winch → Winch) (s : State) :
    (onWinch w f s).pending = s.pending ∧ (onWinch w f s).powered = s.powered ∧ (onWinch w f s).now = s.now
    ∧ (onWinch w f s).freeSeq = s.freeSeq ∧ (onWinch w f s).due = s.due ∧ (onWinch w f s).pins = s.pins
    ∧ (onWinch w f s).sc = s.sc ∧ (onWinch w f s).tbi = s.tbi ∧ (onWinch w f s).pt = s.pt
    ∧ (onWinch w f s).hcu = s.hcu ∧ (onWinch w f s).tsu = s.tsu ∧ (onWinch w f s).stu = s.stu
    ∧ (onWinch w f s).fau = s.fau ∧ (onWinch w f s).tau = s.tau ∧ (onWinch w f s).ssq = s.ssq
    ∧ (onWinch w f s).dch = s.dch := by
  simp [onWinch]

@[simp] theorem sendCap_frame (w : WinchId) (c : Option Nat) (s : State) :
    (sendCap w c s).pending = s.pending ∧ (sendCap w c s).powered = s.powered ∧ (sendCap w c s).now = s.now
    ∧ (sendCap w c s).freeSeq = s.freeSeq ∧ (sendCap w c s).due = s.due ∧ (sendCap w c s).pins = s.pins
    ∧ (sendCap w c s).sc = s.sc ∧ (sendCap w c s).pt = s.pt ∧ (sendCap w c s).hcu = s.hcu
    ∧ (sendCap w c s).tsu = s.tsu ∧ (sendCap w c s).stu = s.stu ∧ (sendCap w c s).fau = s.fau
    ∧ (sendCap w c s).tau = s.tau ∧ (sendCap w c s).ssq = s.ssq ∧ (sendCap w c s).dch = s.dch := by
  simp [sendCap]

@[simp] theorem recap_frame (w : WinchId) (s : State) :
    (recap w s).pending = s.pending ∧ (recap w s).powered = s.powered ∧ (recap w s).now = s.now
    ∧ (recap w s).freeSeq = s.freeSeq ∧ (recap w s).due = s.due ∧ (recap w s).pins = s.pins
    ∧ (recap w s).sc = s.sc ∧ (recap w s).pt = s.pt ∧ (recap w s).hcu = s.hcu ∧ (recap w s).tsu = s.tsu
    ∧ (recap w s).stu = s.stu ∧ (recap w s).fau = s.fau ∧ (recap w s).tau = s.tau ∧ (recap w s).ssq = s.ssq
    ∧ (recap w s).dch = s.dch := by
  simp only [recap]
  repeat' split
  all_goals simp

@[simp] theorem endOp_frame (w : WinchId) (s : State) :
    (endOp w s).pending = s.pending ∧ (endOp w s).powered = s.powered ∧ (endOp w s).now = s.now
    ∧ (endOp w s).freeSeq = s.freeSeq ∧ (endOp w s).due = s.due ∧ (endOp w s).pins = s.pins
    ∧ (endOp w s).sc = s.sc ∧ (endOp w s).tbi = s.tbi ∧ (endOp w s).pt = s.pt ∧ (endOp w s).hcu = s.hcu
    ∧ (endOp w s).tsu = s.tsu ∧ (endOp w s).stu = s.stu ∧ (endOp w s).fau = s.fau ∧ (endOp w s).tau = s.tau
    ∧ (endOp w s).ssq = s.ssq := by
  simp [endOp]

@[simp] theorem enterWinch_frame (w : WinchId) (x : WinchState) (b : Bool) (s : State) :
    (enterWinch w x b s).pending = s.pending ∧ (enterWinch w x b s).powered = s.powered
    ∧ (enterWinch w x b s).now = s.now ∧ (enterWinch w x b s).freeSeq = s.freeSeq
    ∧ (enterWinch w x b s).due = s.due ∧ (enterWinch w x b s).pins = s.pins ∧ (enterWinch w x b s).sc = s.sc
    ∧ (enterWinch w x b s).pt = s.pt ∧ (enterWinch w x b s).hcu = s.hcu ∧ (enterWinch w x b s).tsu = s.tsu
    ∧ (enterWinch w x b s).stu = s.stu ∧ (enterWinch w x b s).fau = s.fau ∧ (enterWinch w x b s).tau = s.tau
    ∧ (enterWinch w x b s).ssq = s.ssq ∧ (enterWinch w x b s).dch = s.dch := by
  simp [enterWinch]

@[simp] theorem finishOp_frame (w : WinchId) (x : WinchState) (b : Bool) (s : State) :
    (finishOp w x b s).pending = s.pending ∧ (finishOp w x b s).powered = s.powered
    ∧ (finishOp w x b s).now = s.now ∧ (finishOp w x b s).freeSeq = s.freeSeq ∧ (finishOp w x b s).due = s.due
    ∧ (finishOp w x b s).pins = s.pins ∧ (finishOp w x b s).sc = s.sc ∧ (finishOp w x b s).pt = s.pt
    ∧ (finishOp w x b s).hcu = s.hcu ∧ (finishOp w x b s).tsu = s.tsu ∧ (finishOp w x b s).stu = s.stu
    ∧ (finishOp w x b s).fau = s.fau ∧ (finishOp w x b s).tau = s.tau ∧ (finishOp w x b s).ssq = s.ssq := by
  simp [finishOp]

@[simp] theorem beginOp_frame (w : WinchId) (x : WinchState) (n : Nat) (s : State) :
    (beginOp w x n s).pending = s.pending ∧ (beginOp w x n s).powered = s.powered
    ∧ (beginOp w x n s).now = s.now ∧ (beginOp w x n s).freeSeq = s.freeSeq ∧ (beginOp w x n s).due = s.due
    ∧ (beginOp w x n s).pins = s.pins ∧ (beginOp w x n s).sc = s.sc ∧ (beginOp w x n s).pt = s.pt
    ∧ (beginOp w x n s).hcu = s.hcu ∧ (beginOp w x n s).tsu = s.tsu ∧ (beginOp w x n s).stu = s.stu
    ∧ (beginOp w x n s).fau = s.fau ∧ (beginOp w x n s).tau = s.tau ∧ (beginOp w x n s).ssq = s.ssq := by
  simp [beginOp]

@[simp] theorem beginTakeup_frame (w : WinchId) (s : State) :
    (beginTakeup w s).pending = s.pending ∧ (beginTakeup w s).powered = s.powered
    ∧ (beginTakeup w s).now = s.now ∧ (beginTakeup w s).freeSeq = s.freeSeq ∧ (beginTakeup w s).due = s.due
    ∧ (beginTakeup w s).pins = s.pins ∧ (beginTakeup w s).sc = s.sc ∧ (beginTakeup w s).pt = s.pt
    ∧ (beginTakeup w s).hcu = s.hcu ∧ (beginTakeup w s).tsu = s.tsu ∧ (beginTakeup w s).stu = s.stu
    ∧ (beginTakeup w s).fau = s.fau ∧ (beginTakeup w s).tau = s.tau ∧ (beginTakeup w s).ssq = s.ssq := by
  simp [beginTakeup]

@[simp] theorem beginRender_frame (w : WinchId) (s : State) :
    (beginRender w s).pending = s.pending ∧ (beginRender w s).powered = s.powered
    ∧ (beginRender w s).now = s.now ∧ (beginRender w s).freeSeq = s.freeSeq ∧ (beginRender w s).due = s.due
    ∧ (beginRender w s).pins = s.pins ∧ (beginRender w s).sc = s.sc ∧ (beginRender w s).pt = s.pt
    ∧ (beginRender w s).hcu = s.hcu ∧ (beginRender w s).tsu = s.tsu ∧ (beginRender w s).stu = s.stu
    ∧ (beginRender w s).fau = s.fau ∧ (beginRender w s).tau = s.tau ∧ (beginRender w s).ssq = s.ssq := by
  simp [beginRender]

@[simp] theorem beginRelease_frame (w : WinchId) (s : State) :
    (beginRelease w s).pending = s.pending ∧ (beginRelease w s).powered = s.powered
    ∧ (beginRelease w s).now = s.now ∧ (beginRelease w s).freeSeq = s.freeSeq ∧ (beginRelease w s).due = s.due
    ∧ (beginRelease w s).pins = s.pins ∧ (beginRelease w s).sc = s.sc ∧ (beginRelease w s).pt = s.pt
    ∧ (beginRelease w s).hcu = s.hcu ∧ (beginRelease w s).tsu = s.tsu ∧ (beginRelease w s).stu = s.stu
    ∧ (beginRelease w s).fau = s.fau ∧ (beginRelease w s).tau = s.tau ∧ (beginRelease w s).ssq = s.ssq := by
  simp [beginRelease]

@[simp] theorem tripWinch_frame (w : WinchId) (s : State) :
    (tripWinch w s).pending = s.pending ∧ (tripWinch w s).powered = s.powered ∧ (tripWinch w s).now = s.now
    ∧ (tripWinch w s).freeSeq = s.freeSeq ∧ (tripWinch w s).due = s.due ∧ (tripWinch w s).pins = s.pins
    ∧ (tripWinch w s).sc = s.sc ∧ (tripWinch w s).pt = s.pt ∧ (tripWinch w s).hcu = s.hcu
    ∧ (tripWinch w s).tsu = s.tsu ∧ (tripWinch w s).stu = s.stu ∧ (tripWinch w s).fau = s.fau
    ∧ (tripWinch w s).tau = s.tau ∧ (tripWinch w s).ssq = s.ssq := by
  unfold tripWinch
  split <;> simp

@[simp] theorem cuTrip_frame (s : State) :
    (cuTrip s).pending = s.pending ∧ (cuTrip s).powered = s.powered ∧ (cuTrip s).now = s.now
    ∧ (cuTrip s).freeSeq = s.freeSeq ∧ (cuTrip s).due = s.due ∧ (cuTrip s).pins = s.pins ∧ (cuTrip s).sc = s.sc
    ∧ (cuTrip s).pt = s.pt ∧ (cuTrip s).hcu = s.hcu ∧ (cuTrip s).tsu = s.tsu ∧ (cuTrip s).stu = s.stu
    ∧ (cuTrip s).fau = s.fau ∧ (cuTrip s).tau = s.tau ∧ (cuTrip s).ssq = s.ssq := by
  simp [cuTrip]

@[simp] theorem winchRun_frame (w : WinchId) (s : State) :
    (winchRun w s).pending = s.pending ∧ (winchRun w s).powered = s.powered ∧ (winchRun w s).now = s.now
    ∧ (winchRun w s).freeSeq = s.freeSeq ∧ (winchRun w s).due = s.due ∧ (winchRun w s).pins = s.pins
    ∧ (winchRun w s).sc = s.sc ∧ (winchRun w s).pt = s.pt ∧ (winchRun w s).hcu = s.hcu
    ∧ (winchRun w s).tsu = s.tsu ∧ (winchRun w s).stu = s.stu ∧ (winchRun w s).fau = s.fau
    ∧ (winchRun w s).tau = s.tau ∧ (winchRun w s).ssq = s.ssq := by
  unfold winchRun
  repeat' split
  all_goals simp

@[simp] theorem cuRun_frame (s : State) :
    (cuRun s).pending = s.pending ∧ (cuRun s).powered = s.powered ∧ (cuRun s).now = s.now
    ∧ (cuRun s).freeSeq = s.freeSeq ∧ (cuRun s).due = s.due ∧ (cuRun s).pins = s.pins ∧ (cuRun s).sc = s.sc
    ∧ (cuRun s).pt = s.pt ∧ (cuRun s).hcu = s.hcu ∧ (cuRun s).tsu = s.tsu ∧ (cuRun s).stu = s.stu
    ∧ (cuRun s).fau = s.fau ∧ (cuRun s).tau = s.tau ∧ (cuRun s).ssq = s.ssq := by
  simp [cuRun]

@[simp] theorem queueTrip_frame (c : OwnCause) (s : State) :
    (queueTrip c s).pending = s.pending ∧ (queueTrip c s).powered = s.powered ∧ (queueTrip c s).now = s.now
    ∧ (queueTrip c s).freeSeq = s.freeSeq ∧ (queueTrip c s).due = s.due ∧ (queueTrip c s).pins = s.pins
    ∧ (queueTrip c s).sc = s.sc ∧ (queueTrip c s).pt = s.pt ∧ (queueTrip c s).hcu = s.hcu
    ∧ (queueTrip c s).tsu = s.tsu ∧ (queueTrip c s).stu = s.stu ∧ (queueTrip c s).cu = s.cu
    ∧ (queueTrip c s).fau = s.fau ∧ (queueTrip c s).tau = s.tau ∧ (queueTrip c s).ssq = s.ssq
    ∧ (queueTrip c s).dch = s.dch := by
  simp [queueTrip]

@[simp] theorem setLatch_frame (r : TripRecord) (s : State) :
    (setLatch r s).pending = s.pending ∧ (setLatch r s).powered = s.powered ∧ (setLatch r s).now = s.now
    ∧ (setLatch r s).freeSeq = s.freeSeq ∧ (setLatch r s).due = s.due ∧ (setLatch r s).pins = s.pins
    ∧ (setLatch r s).sc = s.sc ∧ (setLatch r s).pt = s.pt ∧ (setLatch r s).hcu = s.hcu
    ∧ (setLatch r s).stu = s.stu ∧ (setLatch r s).fau = s.fau ∧ (setLatch r s).ssq = s.ssq := by
  unfold setLatch
  split <;> simp

@[simp] theorem beginCause_frame (c : OwnCause) (s : State) :
    (beginCause c s).pending = s.pending ∧ (beginCause c s).powered = s.powered ∧ (beginCause c s).now = s.now
    ∧ (beginCause c s).freeSeq = s.freeSeq ∧ (beginCause c s).due = s.due ∧ (beginCause c s).pins = s.pins
    ∧ (beginCause c s).sc = s.sc ∧ (beginCause c s).pt = s.pt ∧ (beginCause c s).hcu = s.hcu
    ∧ (beginCause c s).stu = s.stu ∧ (beginCause c s).fau = s.fau ∧ (beginCause c s).ssq = s.ssq := by
  unfold beginCause
  split <;> simp

@[simp] theorem endCause_frame (c : OwnCause) (s : State) :
    (endCause c s).pending = s.pending ∧ (endCause c s).powered = s.powered ∧ (endCause c s).now = s.now
    ∧ (endCause c s).freeSeq = s.freeSeq ∧ (endCause c s).due = s.due ∧ (endCause c s).pins = s.pins
    ∧ (endCause c s).sc = s.sc ∧ (endCause c s).tbi = s.tbi ∧ (endCause c s).pt = s.pt
    ∧ (endCause c s).hcu = s.hcu ∧ (endCause c s).tsu = s.tsu ∧ (endCause c s).stu = s.stu
    ∧ (endCause c s).cu = s.cu ∧ (endCause c s).fau = s.fau ∧ (endCause c s).ssq = s.ssq
    ∧ (endCause c s).dch = s.dch := by
  unfold endCause
  split <;> simp

@[simp] theorem partWinch_frame (w : WinchId) (s : State) :
    (partWinch w s).pending = s.pending ∧ (partWinch w s).powered = s.powered ∧ (partWinch w s).now = s.now
    ∧ (partWinch w s).freeSeq = s.freeSeq ∧ (partWinch w s).due = s.due ∧ (partWinch w s).pins = s.pins
    ∧ (partWinch w s).sc = s.sc ∧ (partWinch w s).pt = s.pt ∧ (partWinch w s).hcu = s.hcu
    ∧ (partWinch w s).stu = s.stu ∧ (partWinch w s).fau = s.fau ∧ (partWinch w s).ssq = s.ssq := by
  simp [partWinch]

@[simp] theorem onHcu_frame (f : Hcu → Hcu) (s : State) :
    (onHcu f s).pending = s.pending ∧ (onHcu f s).powered = s.powered ∧ (onHcu f s).now = s.now
    ∧ (onHcu f s).freeSeq = s.freeSeq ∧ (onHcu f s).due = s.due ∧ (onHcu f s).pins = s.pins
    ∧ (onHcu f s).sc = s.sc ∧ (onHcu f s).tbi = s.tbi ∧ (onHcu f s).pt = s.pt ∧ (onHcu f s).tsu = s.tsu
    ∧ (onHcu f s).stu = s.stu ∧ (onHcu f s).cu = s.cu ∧ (onHcu f s).fau = s.fau ∧ (onHcu f s).tau = s.tau
    ∧ (onHcu f s).ssq = s.ssq ∧ (onHcu f s).dch = s.dch := by
  simp [onHcu]

@[simp] theorem queueDemand_frame (s : State) :
    (queueDemand s).pending = s.pending ∧ (queueDemand s).powered = s.powered ∧ (queueDemand s).now = s.now
    ∧ (queueDemand s).freeSeq = s.freeSeq ∧ (queueDemand s).due = s.due ∧ (queueDemand s).pins = s.pins
    ∧ (queueDemand s).sc = s.sc ∧ (queueDemand s).pt = s.pt ∧ (queueDemand s).tsu = s.tsu
    ∧ (queueDemand s).stu = s.stu ∧ (queueDemand s).cu = s.cu ∧ (queueDemand s).fau = s.fau
    ∧ (queueDemand s).tau = s.tau ∧ (queueDemand s).ssq = s.ssq ∧ (queueDemand s).dch = s.dch := by
  simp [queueDemand]

@[simp] theorem queueCommand_frame (p : List Byte) (s : State) :
    (queueCommand p s).pending = s.pending ∧ (queueCommand p s).powered = s.powered
    ∧ (queueCommand p s).now = s.now ∧ (queueCommand p s).freeSeq = s.freeSeq ∧ (queueCommand p s).due = s.due
    ∧ (queueCommand p s).pins = s.pins ∧ (queueCommand p s).sc = s.sc ∧ (queueCommand p s).pt = s.pt
    ∧ (queueCommand p s).hcu = s.hcu ∧ (queueCommand p s).tsu = s.tsu ∧ (queueCommand p s).stu = s.stu
    ∧ (queueCommand p s).cu = s.cu ∧ (queueCommand p s).fau = s.fau ∧ (queueCommand p s).tau = s.tau
    ∧ (queueCommand p s).ssq = s.ssq ∧ (queueCommand p s).dch = s.dch := by
  simp [queueCommand]

@[simp] theorem setLamp_frame (b : Bool) (s : State) :
    (setLamp b s).pending = s.pending ∧ (setLamp b s).powered = s.powered ∧ (setLamp b s).now = s.now
    ∧ (setLamp b s).freeSeq = s.freeSeq ∧ (setLamp b s).due = s.due ∧ (setLamp b s).pins = s.pins
    ∧ (setLamp b s).sc = s.sc ∧ (setLamp b s).tbi = s.tbi ∧ (setLamp b s).pt = s.pt ∧ (setLamp b s).hcu = s.hcu
    ∧ (setLamp b s).tsu = s.tsu ∧ (setLamp b s).stu = s.stu ∧ (setLamp b s).cu = s.cu
    ∧ (setLamp b s).fau = s.fau ∧ (setLamp b s).tau = s.tau ∧ (setLamp b s).ssq = s.ssq := by
  simp [setLamp]

@[simp] theorem enterCommand_frame (s : State) :
    (enterCommand s).pending = s.pending ∧ (enterCommand s).powered = s.powered ∧ (enterCommand s).now = s.now
    ∧ (enterCommand s).freeSeq = s.freeSeq ∧ (enterCommand s).due = s.due ∧ (enterCommand s).pins = s.pins
    ∧ (enterCommand s).sc = s.sc ∧ (enterCommand s).pt = s.pt ∧ (enterCommand s).tsu = s.tsu
    ∧ (enterCommand s).stu = s.stu ∧ (enterCommand s).cu = s.cu ∧ (enterCommand s).fau = s.fau
    ∧ (enterCommand s).tau = s.tau ∧ (enterCommand s).ssq = s.ssq := by
  simp [enterCommand]

@[simp] theorem leaveCommand_frame (s : State) :
    (leaveCommand s).pending = s.pending ∧ (leaveCommand s).powered = s.powered ∧ (leaveCommand s).now = s.now
    ∧ (leaveCommand s).freeSeq = s.freeSeq ∧ (leaveCommand s).due = s.due ∧ (leaveCommand s).pins = s.pins
    ∧ (leaveCommand s).sc = s.sc ∧ (leaveCommand s).pt = s.pt ∧ (leaveCommand s).tsu = s.tsu
    ∧ (leaveCommand s).stu = s.stu ∧ (leaveCommand s).cu = s.cu ∧ (leaveCommand s).fau = s.fau
    ∧ (leaveCommand s).tau = s.tau ∧ (leaveCommand s).ssq = s.ssq := by
  simp [leaveCommand]

@[simp] theorem applyClaim_frame (k : ClaimKind) (e : Seq16) (x : Station) (s : State) :
    (applyClaim k e x s).pending = s.pending ∧ (applyClaim k e x s).powered = s.powered
    ∧ (applyClaim k e x s).now = s.now ∧ (applyClaim k e x s).freeSeq = s.freeSeq
    ∧ (applyClaim k e x s).due = s.due ∧ (applyClaim k e x s).pins = s.pins ∧ (applyClaim k e x s).sc = s.sc
    ∧ (applyClaim k e x s).pt = s.pt ∧ (applyClaim k e x s).tsu = s.tsu ∧ (applyClaim k e x s).stu = s.stu
    ∧ (applyClaim k e x s).cu = s.cu ∧ (applyClaim k e x s).fau = s.fau ∧ (applyClaim k e x s).tau = s.tau
    ∧ (applyClaim k e x s).ssq = s.ssq ∧ (applyClaim k e x s).dch = s.dch := by
  unfold applyClaim
  split <;> simp

@[simp] theorem helmAfterClaim_frame (k : ClaimKind) (x : Station) (r : ClaimResult) (s : State) :
    (helmAfterClaim k x r s).pending = s.pending ∧ (helmAfterClaim k x r s).powered = s.powered
    ∧ (helmAfterClaim k x r s).now = s.now ∧ (helmAfterClaim k x r s).freeSeq = s.freeSeq
    ∧ (helmAfterClaim k x r s).due = s.due ∧ (helmAfterClaim k x r s).pins = s.pins
    ∧ (helmAfterClaim k x r s).sc = s.sc ∧ (helmAfterClaim k x r s).pt = s.pt
    ∧ (helmAfterClaim k x r s).tsu = s.tsu ∧ (helmAfterClaim k x r s).stu = s.stu
    ∧ (helmAfterClaim k x r s).cu = s.cu ∧ (helmAfterClaim k x r s).fau = s.fau
    ∧ (helmAfterClaim k x r s).tau = s.tau ∧ (helmAfterClaim k x r s).ssq = s.ssq := by
  simp only [helmAfterClaim]
  repeat' split
  all_goals simp

@[simp] theorem claim_frame (k : ClaimKind) (e : Seq16) (x : Station) (s : State) :
    (claim k e x s).pending = s.pending ∧ (claim k e x s).powered = s.powered ∧ (claim k e x s).now = s.now
    ∧ (claim k e x s).freeSeq = s.freeSeq ∧ (claim k e x s).due = s.due ∧ (claim k e x s).pins = s.pins
    ∧ (claim k e x s).sc = s.sc ∧ (claim k e x s).pt = s.pt ∧ (claim k e x s).tsu = s.tsu
    ∧ (claim k e x s).stu = s.stu ∧ (claim k e x s).cu = s.cu ∧ (claim k e x s).fau = s.fau
    ∧ (claim k e x s).tau = s.tau ∧ (claim k e x s).ssq = s.ssq := by
  unfold claim
  split <;> simp

@[simp] theorem seizeEdge_frame (s : State) :
    (seizeEdge s).pending = s.pending ∧ (seizeEdge s).powered = s.powered ∧ (seizeEdge s).now = s.now
    ∧ (seizeEdge s).freeSeq = s.freeSeq ∧ (seizeEdge s).due = s.due ∧ (seizeEdge s).pins = s.pins
    ∧ (seizeEdge s).sc = s.sc ∧ (seizeEdge s).pt = s.pt ∧ (seizeEdge s).tsu = s.tsu ∧ (seizeEdge s).stu = s.stu
    ∧ (seizeEdge s).cu = s.cu ∧ (seizeEdge s).fau = s.fau ∧ (seizeEdge s).tau = s.tau
    ∧ (seizeEdge s).ssq = s.ssq := by
  unfold seizeEdge
  split <;> simp

@[simp] theorem takeEdge_frame (s : State) :
    (takeEdge s).pending = s.pending ∧ (takeEdge s).powered = s.powered ∧ (takeEdge s).now = s.now
    ∧ (takeEdge s).freeSeq = s.freeSeq ∧ (takeEdge s).due = s.due ∧ (takeEdge s).pins = s.pins
    ∧ (takeEdge s).sc = s.sc ∧ (takeEdge s).pt = s.pt ∧ (takeEdge s).tsu = s.tsu ∧ (takeEdge s).stu = s.stu
    ∧ (takeEdge s).cu = s.cu ∧ (takeEdge s).fau = s.fau ∧ (takeEdge s).tau = s.tau ∧ (takeEdge s).ssq = s.ssq := by
  unfold takeEdge
  repeat' split
  all_goals simp

@[simp] theorem vacateIf_frame (n : Station) (s : State) :
    (vacateIf n s).pending = s.pending ∧ (vacateIf n s).powered = s.powered ∧ (vacateIf n s).now = s.now
    ∧ (vacateIf n s).freeSeq = s.freeSeq ∧ (vacateIf n s).due = s.due ∧ (vacateIf n s).pins = s.pins
    ∧ (vacateIf n s).sc = s.sc ∧ (vacateIf n s).tbi = s.tbi ∧ (vacateIf n s).pt = s.pt
    ∧ (vacateIf n s).tsu = s.tsu ∧ (vacateIf n s).stu = s.stu ∧ (vacateIf n s).cu = s.cu
    ∧ (vacateIf n s).fau = s.fau ∧ (vacateIf n s).tau = s.tau ∧ (vacateIf n s).ssq = s.ssq
    ∧ (vacateIf n s).dch = s.dch := by
  unfold vacateIf
  split <;> simp

@[simp] theorem helmSeen_frame (n : Station) (p : Option HelmPart) (s : State) :
    (helmSeen n p s).pending = s.pending ∧ (helmSeen n p s).powered = s.powered ∧ (helmSeen n p s).now = s.now
    ∧ (helmSeen n p s).freeSeq = s.freeSeq ∧ (helmSeen n p s).due = s.due ∧ (helmSeen n p s).pins = s.pins
    ∧ (helmSeen n p s).sc = s.sc ∧ (helmSeen n p s).tbi = s.tbi ∧ (helmSeen n p s).pt = s.pt
    ∧ (helmSeen n p s).tsu = s.tsu ∧ (helmSeen n p s).stu = s.stu ∧ (helmSeen n p s).cu = s.cu
    ∧ (helmSeen n p s).fau = s.fau ∧ (helmSeen n p s).tau = s.tau ∧ (helmSeen n p s).ssq = s.ssq
    ∧ (helmSeen n p s).dch = s.dch := by
  unfold helmSeen
  repeat' split
  all_goals simp

@[simp] theorem helmEdges_frame (a b : Bool) (s : State) :
    (helmEdges a b s).pending = s.pending ∧ (helmEdges a b s).powered = s.powered
    ∧ (helmEdges a b s).now = s.now ∧ (helmEdges a b s).due = s.due ∧ (helmEdges a b s).pins = s.pins
    ∧ (helmEdges a b s).sc = s.sc ∧ (helmEdges a b s).pt = s.pt ∧ (helmEdges a b s).tsu = s.tsu
    ∧ (helmEdges a b s).stu = s.stu ∧ (helmEdges a b s).cu = s.cu ∧ (helmEdges a b s).fau = s.fau
    ∧ (helmEdges a b s).tau = s.tau ∧ (helmEdges a b s).ssq = s.ssq := by
  unfold helmEdges
  repeat' split
  all_goals simp

@[simp] theorem commandScan_frame (s : State) :
    (commandScan s).pending = s.pending ∧ (commandScan s).powered = s.powered ∧ (commandScan s).now = s.now
    ∧ (commandScan s).freeSeq = s.freeSeq ∧ (commandScan s).due = s.due ∧ (commandScan s).pins = s.pins
    ∧ (commandScan s).sc = s.sc ∧ (commandScan s).pt = s.pt ∧ (commandScan s).tsu = s.tsu
    ∧ (commandScan s).stu = s.stu ∧ (commandScan s).cu = s.cu ∧ (commandScan s).fau = s.fau
    ∧ (commandScan s).tau = s.tau ∧ (commandScan s).ssq = s.ssq ∧ (commandScan s).dch = s.dch := by
  unfold commandScan
  repeat' split
  all_goals simp

@[simp] theorem hcuScan_frame (m : SampleSet) (s : State) :
    (hcuScan m s).pending = s.pending ∧ (hcuScan m s).powered = s.powered ∧ (hcuScan m s).now = s.now
    ∧ (hcuScan m s).due = s.due ∧ (hcuScan m s).pins = s.pins ∧ (hcuScan m s).sc = s.sc
    ∧ (hcuScan m s).pt = s.pt ∧ (hcuScan m s).tsu = s.tsu ∧ (hcuScan m s).stu = s.stu ∧ (hcuScan m s).cu = s.cu
    ∧ (hcuScan m s).fau = s.fau ∧ (hcuScan m s).tau = s.tau ∧ (hcuScan m s).ssq = s.ssq := by
  simp [hcuScan]

@[simp] theorem setKept_frame (k : Retained) (s : State) :
    (setKept k s).pending = s.pending ∧ (setKept k s).powered = s.powered ∧ (setKept k s).now = s.now
    ∧ (setKept k s).freeSeq = s.freeSeq ∧ (setKept k s).due = s.due ∧ (setKept k s).pins = s.pins
    ∧ (setKept k s).sc = s.sc ∧ (setKept k s).tbi = s.tbi ∧ (setKept k s).pt = s.pt ∧ (setKept k s).hcu = s.hcu
    ∧ (setKept k s).tsu = s.tsu ∧ (setKept k s).stu = s.stu ∧ (setKept k s).cu = s.cu
    ∧ (setKept k s).tau = s.tau ∧ (setKept k s).ssq = s.ssq ∧ (setKept k s).dch = s.dch := by
  simp [setKept]

@[simp] theorem fauWindow_frame (m : SampleSet) (s : State) :
    (fauWindow m s).pending = s.pending ∧ (fauWindow m s).powered = s.powered ∧ (fauWindow m s).now = s.now
    ∧ (fauWindow m s).freeSeq = s.freeSeq ∧ (fauWindow m s).due = s.due ∧ (fauWindow m s).pins = s.pins
    ∧ (fauWindow m s).sc = s.sc ∧ (fauWindow m s).tbi = s.tbi ∧ (fauWindow m s).pt = s.pt
    ∧ (fauWindow m s).hcu = s.hcu ∧ (fauWindow m s).tsu = s.tsu ∧ (fauWindow m s).stu = s.stu
    ∧ (fauWindow m s).cu = s.cu ∧ (fauWindow m s).ssq = s.ssq ∧ (fauWindow m s).dch = s.dch := by
  unfold fauWindow
  split <;> simp

@[simp] theorem fauLevel_frame (m : SampleSet) (s : State) :
    (fauLevel m s).pending = s.pending ∧ (fauLevel m s).powered = s.powered ∧ (fauLevel m s).now = s.now
    ∧ (fauLevel m s).freeSeq = s.freeSeq ∧ (fauLevel m s).due = s.due ∧ (fauLevel m s).pins = s.pins
    ∧ (fauLevel m s).sc = s.sc ∧ (fauLevel m s).tbi = s.tbi ∧ (fauLevel m s).pt = s.pt
    ∧ (fauLevel m s).hcu = s.hcu ∧ (fauLevel m s).tsu = s.tsu ∧ (fauLevel m s).stu = s.stu
    ∧ (fauLevel m s).cu = s.cu ∧ (fauLevel m s).tau = s.tau ∧ (fauLevel m s).ssq = s.ssq
    ∧ (fauLevel m s).dch = s.dch := by
  simp [fauLevel]

@[simp] theorem fauCapture_frame (s : State) :
    (fauCapture s).pending = s.pending ∧ (fauCapture s).powered = s.powered ∧ (fauCapture s).now = s.now
    ∧ (fauCapture s).freeSeq = s.freeSeq ∧ (fauCapture s).due = s.due ∧ (fauCapture s).pins = s.pins
    ∧ (fauCapture s).sc = s.sc ∧ (fauCapture s).tbi = s.tbi ∧ (fauCapture s).pt = s.pt
    ∧ (fauCapture s).hcu = s.hcu ∧ (fauCapture s).tsu = s.tsu ∧ (fauCapture s).stu = s.stu
    ∧ (fauCapture s).cu = s.cu ∧ (fauCapture s).tau = s.tau ∧ (fauCapture s).ssq = s.ssq
    ∧ (fauCapture s).dch = s.dch := by
  unfold fauCapture
  split <;> simp

@[simp] theorem fauScan_frame (m : SampleSet) (s : State) :
    (fauScan m s).pending = s.pending ∧ (fauScan m s).powered = s.powered ∧ (fauScan m s).now = s.now
    ∧ (fauScan m s).freeSeq = s.freeSeq ∧ (fauScan m s).due = s.due ∧ (fauScan m s).pins = s.pins
    ∧ (fauScan m s).sc = s.sc ∧ (fauScan m s).tbi = s.tbi ∧ (fauScan m s).pt = s.pt ∧ (fauScan m s).hcu = s.hcu
    ∧ (fauScan m s).tsu = s.tsu ∧ (fauScan m s).stu = s.stu ∧ (fauScan m s).cu = s.cu
    ∧ (fauScan m s).ssq = s.ssq ∧ (fauScan m s).dch = s.dch := by
  unfold fauScan
  split <;> simp

@[simp] theorem evaluate_frame (a b : Nat) (s : State) :
    (evaluate a b s).pending = s.pending ∧ (evaluate a b s).powered = s.powered ∧ (evaluate a b s).now = s.now
    ∧ (evaluate a b s).freeSeq = s.freeSeq ∧ (evaluate a b s).due = s.due ∧ (evaluate a b s).pins = s.pins
    ∧ (evaluate a b s).sc = s.sc ∧ (evaluate a b s).tbi = s.tbi ∧ (evaluate a b s).pt = s.pt
    ∧ (evaluate a b s).hcu = s.hcu ∧ (evaluate a b s).tsu = s.tsu ∧ (evaluate a b s).stu = s.stu
    ∧ (evaluate a b s).cu = s.cu ∧ (evaluate a b s).ssq = s.ssq ∧ (evaluate a b s).dch = s.dch := by
  simp [evaluate]

@[simp] theorem reconcile_frame (s : State) :
    (reconcile s).pending = s.pending ∧ (reconcile s).powered = s.powered ∧ (reconcile s).now = s.now
    ∧ (reconcile s).freeSeq = s.freeSeq ∧ (reconcile s).due = s.due ∧ (reconcile s).pins = s.pins
    ∧ (reconcile s).sc = s.sc ∧ (reconcile s).tbi = s.tbi ∧ (reconcile s).pt = s.pt ∧ (reconcile s).hcu = s.hcu
    ∧ (reconcile s).tsu = s.tsu ∧ (reconcile s).stu = s.stu ∧ (reconcile s).cu = s.cu
    ∧ (reconcile s).ssq = s.ssq ∧ (reconcile s).dch = s.dch := by
  unfold reconcile
  split <;> simp

@[simp] theorem queueCurrent_frame (s : State) :
    (queueCurrent s).pending = s.pending ∧ (queueCurrent s).powered = s.powered ∧ (queueCurrent s).now = s.now
    ∧ (queueCurrent s).freeSeq = s.freeSeq ∧ (queueCurrent s).due = s.due ∧ (queueCurrent s).pins = s.pins
    ∧ (queueCurrent s).sc = s.sc ∧ (queueCurrent s).pt = s.pt ∧ (queueCurrent s).hcu = s.hcu
    ∧ (queueCurrent s).tsu = s.tsu ∧ (queueCurrent s).stu = s.stu ∧ (queueCurrent s).cu = s.cu
    ∧ (queueCurrent s).fau = s.fau ∧ (queueCurrent s).tau = s.tau ∧ (queueCurrent s).ssq = s.ssq
    ∧ (queueCurrent s).dch = s.dch := by
  simp [queueCurrent]

@[simp] theorem closeLeg_frame (g : Bool) (n : Seq16) (s : State) :
    (closeLeg g n s).pending = s.pending ∧ (closeLeg g n s).powered = s.powered ∧ (closeLeg g n s).now = s.now
    ∧ (closeLeg g n s).freeSeq = s.freeSeq ∧ (closeLeg g n s).due = s.due ∧ (closeLeg g n s).pins = s.pins
    ∧ (closeLeg g n s).sc = s.sc ∧ (closeLeg g n s).pt = s.pt ∧ (closeLeg g n s).hcu = s.hcu
    ∧ (closeLeg g n s).tsu = s.tsu ∧ (closeLeg g n s).stu = s.stu ∧ (closeLeg g n s).cu = s.cu
    ∧ (closeLeg g n s).tau = s.tau ∧ (closeLeg g n s).ssq = s.ssq ∧ (closeLeg g n s).dch = s.dch := by
  simp [closeLeg]

@[simp] theorem adoptLeg_frame (g : Bool) (n : Seq16) (p : PeerState) (s : State) :
    (adoptLeg g n p s).pending = s.pending ∧ (adoptLeg g n p s).powered = s.powered
    ∧ (adoptLeg g n p s).now = s.now ∧ (adoptLeg g n p s).freeSeq = s.freeSeq ∧ (adoptLeg g n p s).due = s.due
    ∧ (adoptLeg g n p s).pins = s.pins ∧ (adoptLeg g n p s).sc = s.sc ∧ (adoptLeg g n p s).pt = s.pt
    ∧ (adoptLeg g n p s).hcu = s.hcu ∧ (adoptLeg g n p s).tsu = s.tsu ∧ (adoptLeg g n p s).stu = s.stu
    ∧ (adoptLeg g n p s).cu = s.cu ∧ (adoptLeg g n p s).tau = s.tau ∧ (adoptLeg g n p s).ssq = s.ssq
    ∧ (adoptLeg g n p s).dch = s.dch := by
  unfold adoptLeg
  split <;> simp

@[simp] theorem queueStatus_frame (s : State) :
    (queueStatus s).pending = s.pending ∧ (queueStatus s).powered = s.powered ∧ (queueStatus s).now = s.now
    ∧ (queueStatus s).freeSeq = s.freeSeq ∧ (queueStatus s).due = s.due ∧ (queueStatus s).pins = s.pins
    ∧ (queueStatus s).sc = s.sc ∧ (queueStatus s).pt = s.pt ∧ (queueStatus s).hcu = s.hcu
    ∧ (queueStatus s).tsu = s.tsu ∧ (queueStatus s).stu = s.stu ∧ (queueStatus s).cu = s.cu
    ∧ (queueStatus s).fau = s.fau ∧ (queueStatus s).tau = s.tau ∧ (queueStatus s).ssq = s.ssq
    ∧ (queueStatus s).dch = s.dch := by
  simp [queueStatus]

@[simp] theorem setStation_frame (x : StationState) (s : State) :
    (setStation x s).pending = s.pending ∧ (setStation x s).powered = s.powered ∧ (setStation x s).now = s.now
    ∧ (setStation x s).freeSeq = s.freeSeq ∧ (setStation x s).due = s.due ∧ (setStation x s).pins = s.pins
    ∧ (setStation x s).tbi = s.tbi ∧ (setStation x s).pt = s.pt ∧ (setStation x s).hcu = s.hcu
    ∧ (setStation x s).tsu = s.tsu ∧ (setStation x s).stu = s.stu ∧ (setStation x s).cu = s.cu
    ∧ (setStation x s).fau = s.fau ∧ (setStation x s).tau = s.tau ∧ (setStation x s).ssq = s.ssq
    ∧ (setStation x s).dch = s.dch := by
  simp [setStation]

@[simp] theorem fauJoin_frame (s : State) :
    (fauJoin s).pending = s.pending ∧ (fauJoin s).powered = s.powered ∧ (fauJoin s).now = s.now
    ∧ (fauJoin s).freeSeq = s.freeSeq ∧ (fauJoin s).due = s.due ∧ (fauJoin s).pins = s.pins
    ∧ (fauJoin s).sc = s.sc ∧ (fauJoin s).tbi = s.tbi ∧ (fauJoin s).pt = s.pt ∧ (fauJoin s).hcu = s.hcu
    ∧ (fauJoin s).tsu = s.tsu ∧ (fauJoin s).stu = s.stu ∧ (fauJoin s).cu = s.cu ∧ (fauJoin s).ssq = s.ssq
    ∧ (fauJoin s).dch = s.dch := by
  unfold fauJoin
  split <;> simp

@[simp] theorem startJoining_frame (s : State) :
    (startJoining s).pending = s.pending ∧ (startJoining s).powered = s.powered ∧ (startJoining s).now = s.now
    ∧ (startJoining s).freeSeq = s.freeSeq ∧ (startJoining s).due = s.due ∧ (startJoining s).pins = s.pins
    ∧ (startJoining s).tbi = s.tbi ∧ (startJoining s).pt = s.pt ∧ (startJoining s).tsu = s.tsu
    ∧ (startJoining s).stu = s.stu ∧ (startJoining s).cu = s.cu ∧ (startJoining s).fau = s.fau
    ∧ (startJoining s).tau = s.tau := by
  simp [startJoining]

@[simp] theorem enterJoining_frame (s : State) :
    (enterJoining s).pending = s.pending ∧ (enterJoining s).powered = s.powered ∧ (enterJoining s).now = s.now
    ∧ (enterJoining s).freeSeq = s.freeSeq ∧ (enterJoining s).due = s.due ∧ (enterJoining s).pins = s.pins
    ∧ (enterJoining s).pt = s.pt ∧ (enterJoining s).cu = s.cu := by
  simp [enterJoining]

@[simp] theorem enterRun_frame (s : State) :
    (enterRun s).pending = s.pending ∧ (enterRun s).powered = s.powered ∧ (enterRun s).now = s.now
    ∧ (enterRun s).freeSeq = s.freeSeq ∧ (enterRun s).due = s.due ∧ (enterRun s).pins = s.pins
    ∧ (enterRun s).pt = s.pt ∧ (enterRun s).hcu = s.hcu ∧ (enterRun s).fau = s.fau ∧ (enterRun s).ssq = s.ssq := by
  simp [enterRun]

@[simp] theorem enterHold_frame (s : State) :
    (enterHold s).pending = s.pending ∧ (enterHold s).powered = s.powered ∧ (enterHold s).now = s.now
    ∧ (enterHold s).freeSeq = s.freeSeq ∧ (enterHold s).due = s.due ∧ (enterHold s).pins = s.pins
    ∧ (enterHold s).pt = s.pt ∧ (enterHold s).hcu = s.hcu ∧ (enterHold s).cu = s.cu ∧ (enterHold s).fau = s.fau
    ∧ (enterHold s).ssq = s.ssq := by
  simp [enterHold]

@[simp] theorem leaveHold_frame (s : State) :
    (leaveHold s).pending = s.pending ∧ (leaveHold s).powered = s.powered ∧ (leaveHold s).now = s.now
    ∧ (leaveHold s).freeSeq = s.freeSeq ∧ (leaveHold s).due = s.due ∧ (leaveHold s).pins = s.pins
    ∧ (leaveHold s).pt = s.pt ∧ (leaveHold s).hcu = s.hcu ∧ (leaveHold s).cu = s.cu ∧ (leaveHold s).fau = s.fau
    ∧ (leaveHold s).ssq = s.ssq := by
  simp [leaveHold]

@[simp] theorem enterSafe_frame (s : State) :
    (enterSafe s).pending = s.pending ∧ (enterSafe s).powered = s.powered ∧ (enterSafe s).now = s.now
    ∧ (enterSafe s).freeSeq = s.freeSeq ∧ (enterSafe s).due = s.due ∧ (enterSafe s).pins = s.pins
    ∧ (enterSafe s).tbi = s.tbi ∧ (enterSafe s).pt = s.pt ∧ (enterSafe s).fau = s.fau
    ∧ (enterSafe s).ssq = s.ssq := by
  simp [enterSafe]

@[simp] theorem duplicateSeen_frame (s : State) :
    (duplicateSeen s).pending = s.pending ∧ (duplicateSeen s).powered = s.powered
    ∧ (duplicateSeen s).now = s.now ∧ (duplicateSeen s).freeSeq = s.freeSeq ∧ (duplicateSeen s).due = s.due
    ∧ (duplicateSeen s).pins = s.pins ∧ (duplicateSeen s).pt = s.pt ∧ (duplicateSeen s).fau = s.fau
    ∧ (duplicateSeen s).ssq = s.ssq := by
  simp [duplicateSeen]

@[simp] theorem resetUnits_frame (a : Sc) (b : Fau) (c : Tau) (d : Ssq) (n : Nat) (s : State) :
    (resetUnits a b c d n s).pending = s.pending ∧ (resetUnits a b c d n s).powered = s.powered
    ∧ (resetUnits a b c d n s).freeSeq = s.freeSeq ∧ (resetUnits a b c d n s).pins = s.pins := by
  simp [resetUnits]

/-! ### Engine figures and output levels -/

/-- A quotient by an engine figure that is not 0 is the spec's truncated quotient. -/
theorem perFigure_eq_quot {b : Nat} (h : b ≠ 0) (q : EngineRatio) (a : Int) : perFigure q a b = quot a b := if_neg h

/-- The same for a dividend that is not negative. -/
theorem perFigure_toNat {b : Nat} (h : b ≠ 0) (q : EngineRatio) (a : Nat) : (perFigure q a b).toNat = a / b := by
  rw [perFigure_eq_quot h, quot, ← Int.ofNat_tdiv, Int.toNat_natCast]

/-- With a rated_kW of 0, A_own and the set-point are 0 (R43, R52), so the governor duty is asked for at no other sp. -/
theorem powerStep_sp_eq_zero {c : P1} (h : c.ratedKw = 0) (st : StationState) (r : Bool) (t : Tsu) :
    (powerStep c st r t).aOwn = 0 ∧ (powerStep c st r t).sp = 0 := by
  simp [powerStep, cutSp, clampInt, h]

/-- The governor duty in RUN and HOLD is idle_duty whenever the set-point is 0 (R53, R62, R63). -/
theorem govDuty_zero (c : P1) {st : StationState} (h : working st = true) : govDuty c st 0 = c.idleDuty := by
  cases st <;> simp_all [working, govDuty, clampInt, quot]

/-- The engine speed of R159 at an ENGINE-fitted station whose P1 was checked whole. -/
theorem speedOf_eq (s : State) (he : s.sc.fitted.engine = true) (ht : (cfg1 s).teeth ≠ 0) :
    speedOf s = s.ssq.latched.speed * 600 / (cfg1 s).teeth := by
  rw [speedOf, if_pos he, perFigure_toNat ht]

/-- The phase lies within one period. -/
theorem pwmPhase_lt (s : State) : pwmPhase s < 1000 := Nat.mod_lt _ (by decide)

/-- A PWM output is on exactly while the phase is below its applied duty. -/
theorem outPwm_iff (s : State) (c : PwmChannel) : outPwm s c = true ↔ pwmPhase s < appliedDuty s.dch c := by
  simp [outPwm]

/-- Between a boundary and the next the phase counts from the boundary. -/
theorem pwmPhase_after_boundary (s : State) (b k : Nat) (hb : s.dch.boundaryAt = b + 1000) (hn : s.now = b + k)
    (hk : k < 1000) : pwmPhase s = k := by
  rw [pwmPhase, hb, hn]
  omega

end Sys2Proof.Machine
end

