-- ==== Sys2Proof/Laws/Owners.lean ====
section
/-! SUPPORT. What each owner's handling of a frame and each unit's scan leave unchanged: one equation for each
untouched field. -/

namespace Sys2Proof.Machine

open Sys2Proof

@[simp] theorem putPeer_frame (n : Station) (r : PeerRecord) (s : State) :
    (putPeer n r s).pending = s.pending ∧ (putPeer n r s).powered = s.powered ∧ (putPeer n r s).now = s.now
    ∧ (putPeer n r s).freeSeq = s.freeSeq ∧ (putPeer n r s).due = s.due ∧ (putPeer n r s).pins = s.pins
    ∧ (putPeer n r s).sc = s.sc ∧ (putPeer n r s).tbi = s.tbi ∧ (putPeer n r s).hcu = s.hcu
    ∧ (putPeer n r s).tsu = s.tsu ∧ (putPeer n r s).stu = s.stu ∧ (putPeer n r s).cu = s.cu
    ∧ (putPeer n r s).fau = s.fau ∧ (putPeer n r s).tau = s.tau ∧ (putPeer n r s).ssq = s.ssq
    ∧ (putPeer n r s).dch = s.dch := by
  unfold putPeer
  split <;> simp

@[simp] theorem ownStatus_frame (f : Frame) (s : State) :
    (ownStatus f s).pending = s.pending ∧ (ownStatus f s).powered = s.powered ∧ (ownStatus f s).now = s.now
    ∧ (ownStatus f s).freeSeq = s.freeSeq ∧ (ownStatus f s).due = s.due ∧ (ownStatus f s).pins = s.pins
    ∧ (ownStatus f s).sc = s.sc ∧ (ownStatus f s).tbi = s.tbi ∧ (ownStatus f s).tsu = s.tsu
    ∧ (ownStatus f s).stu = s.stu ∧ (ownStatus f s).cu = s.cu ∧ (ownStatus f s).fau = s.fau
    ∧ (ownStatus f s).tau = s.tau ∧ (ownStatus f s).ssq = s.ssq ∧ (ownStatus f s).dch = s.dch := by
  simp [ownStatus]

@[simp] theorem ownCap_frame (f : Frame) (s : State) :
    (ownCap f s).pending = s.pending ∧ (ownCap f s).powered = s.powered ∧ (ownCap f s).now = s.now
    ∧ (ownCap f s).freeSeq = s.freeSeq ∧ (ownCap f s).due = s.due ∧ (ownCap f s).pins = s.pins
    ∧ (ownCap f s).sc = s.sc ∧ (ownCap f s).hcu = s.hcu ∧ (ownCap f s).tsu = s.tsu ∧ (ownCap f s).stu = s.stu
    ∧ (ownCap f s).cu = s.cu ∧ (ownCap f s).fau = s.fau ∧ (ownCap f s).tau = s.tau ∧ (ownCap f s).ssq = s.ssq
    ∧ (ownCap f s).dch = s.dch := by
  simp only [ownCap]
  repeat' split
  all_goals simp

@[simp] theorem ownAccount_frame (f : Frame) (s : State) :
    (ownAccount f s).pending = s.pending ∧ (ownAccount f s).powered = s.powered ∧ (ownAccount f s).now = s.now
    ∧ (ownAccount f s).freeSeq = s.freeSeq ∧ (ownAccount f s).due = s.due ∧ (ownAccount f s).pins = s.pins
    ∧ (ownAccount f s).sc = s.sc ∧ (ownAccount f s).hcu = s.hcu ∧ (ownAccount f s).tsu = s.tsu
    ∧ (ownAccount f s).stu = s.stu ∧ (ownAccount f s).cu = s.cu ∧ (ownAccount f s).tau = s.tau
    ∧ (ownAccount f s).ssq = s.ssq ∧ (ownAccount f s).dch = s.dch := by
  simp only [ownAccount]
  repeat' split
  all_goals simp

@[simp] theorem queueDecline_frame (q : Station) (r : Decline) (s : State) :
    (queueDecline q r s).pending = s.pending ∧ (queueDecline q r s).powered = s.powered
    ∧ (queueDecline q r s).now = s.now ∧ (queueDecline q r s).freeSeq = s.freeSeq
    ∧ (queueDecline q r s).due = s.due ∧ (queueDecline q r s).pins = s.pins ∧ (queueDecline q r s).sc = s.sc
    ∧ (queueDecline q r s).pt = s.pt ∧ (queueDecline q r s).hcu = s.hcu ∧ (queueDecline q r s).tsu = s.tsu
    ∧ (queueDecline q r s).stu = s.stu ∧ (queueDecline q r s).cu = s.cu ∧ (queueDecline q r s).fau = s.fau
    ∧ (queueDecline q r s).tau = s.tau ∧ (queueDecline q r s).ssq = s.ssq ∧ (queueDecline q r s).dch = s.dch := by
  simp [queueDecline]

@[simp] theorem grantTo_frame (q : Station) (s : State) :
    (grantTo q s).pending = s.pending ∧ (grantTo q s).powered = s.powered ∧ (grantTo q s).now = s.now
    ∧ (grantTo q s).freeSeq = s.freeSeq ∧ (grantTo q s).due = s.due ∧ (grantTo q s).pins = s.pins
    ∧ (grantTo q s).sc = s.sc ∧ (grantTo q s).pt = s.pt ∧ (grantTo q s).tsu = s.tsu ∧ (grantTo q s).stu = s.stu
    ∧ (grantTo q s).cu = s.cu ∧ (grantTo q s).fau = s.fau ∧ (grantTo q s).tau = s.tau
    ∧ (grantTo q s).ssq = s.ssq := by
  simp [grantTo]

@[simp] theorem ownRequest_frame (f : Frame) (s : State) :
    (ownRequest f s).pending = s.pending ∧ (ownRequest f s).powered = s.powered ∧ (ownRequest f s).now = s.now
    ∧ (ownRequest f s).freeSeq = s.freeSeq ∧ (ownRequest f s).due = s.due ∧ (ownRequest f s).pins = s.pins
    ∧ (ownRequest f s).sc = s.sc ∧ (ownRequest f s).pt = s.pt ∧ (ownRequest f s).tsu = s.tsu
    ∧ (ownRequest f s).stu = s.stu ∧ (ownRequest f s).cu = s.cu ∧ (ownRequest f s).fau = s.fau
    ∧ (ownRequest f s).tau = s.tau ∧ (ownRequest f s).ssq = s.ssq := by
  unfold ownRequest
  repeat' split
  all_goals simp

@[simp] theorem ownGrant_frame (f : Frame) (s : State) :
    (ownGrant f s).pending = s.pending ∧ (ownGrant f s).powered = s.powered ∧ (ownGrant f s).now = s.now
    ∧ (ownGrant f s).freeSeq = s.freeSeq ∧ (ownGrant f s).due = s.due ∧ (ownGrant f s).pins = s.pins
    ∧ (ownGrant f s).sc = s.sc ∧ (ownGrant f s).pt = s.pt ∧ (ownGrant f s).tsu = s.tsu
    ∧ (ownGrant f s).stu = s.stu ∧ (ownGrant f s).cu = s.cu ∧ (ownGrant f s).fau = s.fau
    ∧ (ownGrant f s).tau = s.tau ∧ (ownGrant f s).ssq = s.ssq := by
  simp only [ownGrant]
  repeat' split
  all_goals simp

@[simp] theorem ownDecline_frame (f : Frame) (s : State) :
    (ownDecline f s).pending = s.pending ∧ (ownDecline f s).powered = s.powered ∧ (ownDecline f s).now = s.now
    ∧ (ownDecline f s).freeSeq = s.freeSeq ∧ (ownDecline f s).due = s.due ∧ (ownDecline f s).pins = s.pins
    ∧ (ownDecline f s).sc = s.sc ∧ (ownDecline f s).tbi = s.tbi ∧ (ownDecline f s).pt = s.pt
    ∧ (ownDecline f s).tsu = s.tsu ∧ (ownDecline f s).stu = s.stu ∧ (ownDecline f s).cu = s.cu
    ∧ (ownDecline f s).fau = s.fau ∧ (ownDecline f s).tau = s.tau ∧ (ownDecline f s).ssq = s.ssq
    ∧ (ownDecline f s).dch = s.dch := by
  unfold ownDecline
  split <;> simp

@[simp] theorem ownSeize_frame (f : Frame) (s : State) :
    (ownSeize f s).pending = s.pending ∧ (ownSeize f s).powered = s.powered ∧ (ownSeize f s).now = s.now
    ∧ (ownSeize f s).freeSeq = s.freeSeq ∧ (ownSeize f s).due = s.due ∧ (ownSeize f s).pins = s.pins
    ∧ (ownSeize f s).sc = s.sc ∧ (ownSeize f s).pt = s.pt ∧ (ownSeize f s).tsu = s.tsu
    ∧ (ownSeize f s).stu = s.stu ∧ (ownSeize f s).cu = s.cu ∧ (ownSeize f s).fau = s.fau
    ∧ (ownSeize f s).tau = s.tau ∧ (ownSeize f s).ssq = s.ssq := by
  simp [ownSeize]

@[simp] theorem ownDemand_frame (f : Frame) (s : State) :
    (ownDemand f s).pending = s.pending ∧ (ownDemand f s).powered = s.powered ∧ (ownDemand f s).now = s.now
    ∧ (ownDemand f s).freeSeq = s.freeSeq ∧ (ownDemand f s).due = s.due ∧ (ownDemand f s).pins = s.pins
    ∧ (ownDemand f s).sc = s.sc ∧ (ownDemand f s).pt = s.pt ∧ (ownDemand f s).tsu = s.tsu
    ∧ (ownDemand f s).stu = s.stu ∧ (ownDemand f s).cu = s.cu ∧ (ownDemand f s).fau = s.fau
    ∧ (ownDemand f s).tau = s.tau ∧ (ownDemand f s).ssq = s.ssq := by
  simp only [ownDemand]
  repeat' split
  all_goals simp

@[simp] theorem makeFast_frame (f : Frame) (w : WinchId) (s : State) :
    (makeFast f w s).pending = s.pending ∧ (makeFast f w s).powered = s.powered ∧ (makeFast f w s).now = s.now
    ∧ (makeFast f w s).freeSeq = s.freeSeq ∧ (makeFast f w s).due = s.due ∧ (makeFast f w s).pins = s.pins
    ∧ (makeFast f w s).sc = s.sc ∧ (makeFast f w s).pt = s.pt ∧ (makeFast f w s).hcu = s.hcu
    ∧ (makeFast f w s).tsu = s.tsu ∧ (makeFast f w s).stu = s.stu ∧ (makeFast f w s).fau = s.fau
    ∧ (makeFast f w s).ssq = s.ssq := by
  unfold makeFast
  split <;> simp

@[simp] theorem releaseFall_frame (f : Frame) (w : WinchId) (s : State) :
    (releaseFall f w s).pending = s.pending ∧ (releaseFall f w s).powered = s.powered
    ∧ (releaseFall f w s).now = s.now ∧ (releaseFall f w s).freeSeq = s.freeSeq
    ∧ (releaseFall f w s).due = s.due ∧ (releaseFall f w s).pins = s.pins ∧ (releaseFall f w s).sc = s.sc
    ∧ (releaseFall f w s).pt = s.pt ∧ (releaseFall f w s).hcu = s.hcu ∧ (releaseFall f w s).tsu = s.tsu
    ∧ (releaseFall f w s).stu = s.stu ∧ (releaseFall f w s).fau = s.fau ∧ (releaseFall f w s).tau = s.tau
    ∧ (releaseFall f w s).ssq = s.ssq := by
  simp only [releaseFall]
  repeat' split
  all_goals simp

@[simp] theorem setRun_frame (w : WinchId) (n : Nat) (s : State) :
    (setRun w n s).pending = s.pending ∧ (setRun w n s).powered = s.powered ∧ (setRun w n s).now = s.now
    ∧ (setRun w n s).freeSeq = s.freeSeq ∧ (setRun w n s).due = s.due ∧ (setRun w n s).pins = s.pins
    ∧ (setRun w n s).sc = s.sc ∧ (setRun w n s).tbi = s.tbi ∧ (setRun w n s).pt = s.pt
    ∧ (setRun w n s).hcu = s.hcu ∧ (setRun w n s).tsu = s.tsu ∧ (setRun w n s).stu = s.stu
    ∧ (setRun w n s).fau = s.fau ∧ (setRun w n s).tau = s.tau ∧ (setRun w n s).ssq = s.ssq
    ∧ (setRun w n s).dch = s.dch := by
  simp [setRun]

@[simp] theorem storeTension_frame (w : WinchId) (r : Reading) (s : State) :
    (storeTension w r s).pending = s.pending ∧ (storeTension w r s).powered = s.powered
    ∧ (storeTension w r s).now = s.now ∧ (storeTension w r s).freeSeq = s.freeSeq
    ∧ (storeTension w r s).due = s.due ∧ (storeTension w r s).pins = s.pins ∧ (storeTension w r s).sc = s.sc
    ∧ (storeTension w r s).tbi = s.tbi ∧ (storeTension w r s).pt = s.pt ∧ (storeTension w r s).hcu = s.hcu
    ∧ (storeTension w r s).tsu = s.tsu ∧ (storeTension w r s).stu = s.stu ∧ (storeTension w r s).fau = s.fau
    ∧ (storeTension w r s).tau = s.tau ∧ (storeTension w r s).ssq = s.ssq ∧ (storeTension w r s).dch = s.dch := by
  simp [storeTension]

@[simp] theorem easeInhibit_frame (w : WinchId) (x : Int) (s : State) :
    (easeInhibit w x s).pending = s.pending ∧ (easeInhibit w x s).powered = s.powered
    ∧ (easeInhibit w x s).now = s.now ∧ (easeInhibit w x s).freeSeq = s.freeSeq
    ∧ (easeInhibit w x s).due = s.due ∧ (easeInhibit w x s).pins = s.pins ∧ (easeInhibit w x s).sc = s.sc
    ∧ (easeInhibit w x s).tbi = s.tbi ∧ (easeInhibit w x s).pt = s.pt ∧ (easeInhibit w x s).hcu = s.hcu
    ∧ (easeInhibit w x s).tsu = s.tsu ∧ (easeInhibit w x s).stu = s.stu ∧ (easeInhibit w x s).fau = s.fau
    ∧ (easeInhibit w x s).tau = s.tau ∧ (easeInhibit w x s).ssq = s.ssq ∧ (easeInhibit w x s).dch = s.dch := by
  simp [easeInhibit]

@[simp] theorem holdingScan_frame (w : WinchId) (x : Int) (s : State) :
    (holdingScan w x s).pending = s.pending ∧ (holdingScan w x s).powered = s.powered
    ∧ (holdingScan w x s).now = s.now ∧ (holdingScan w x s).freeSeq = s.freeSeq
    ∧ (holdingScan w x s).due = s.due ∧ (holdingScan w x s).pins = s.pins ∧ (holdingScan w x s).sc = s.sc
    ∧ (holdingScan w x s).pt = s.pt ∧ (holdingScan w x s).hcu = s.hcu ∧ (holdingScan w x s).stu = s.stu
    ∧ (holdingScan w x s).fau = s.fau ∧ (holdingScan w x s).ssq = s.ssq := by
  simp only [holdingScan]
  repeat' split
  all_goals simp

@[simp] theorem overloadScan_frame (w : WinchId) (x : Int) (s : State) :
    (overloadScan w x s).pending = s.pending ∧ (overloadScan w x s).powered = s.powered
    ∧ (overloadScan w x s).now = s.now ∧ (overloadScan w x s).freeSeq = s.freeSeq
    ∧ (overloadScan w x s).due = s.due ∧ (overloadScan w x s).pins = s.pins ∧ (overloadScan w x s).sc = s.sc
    ∧ (overloadScan w x s).pt = s.pt ∧ (overloadScan w x s).hcu = s.hcu ∧ (overloadScan w x s).stu = s.stu
    ∧ (overloadScan w x s).fau = s.fau ∧ (overloadScan w x s).ssq = s.ssq := by
  simp only [overloadScan]
  repeat' split
  all_goals simp

@[simp] theorem renderingScan_frame (w : WinchId) (x : Int) (s : State) :
    (renderingScan w x s).pending = s.pending ∧ (renderingScan w x s).powered = s.powered
    ∧ (renderingScan w x s).now = s.now ∧ (renderingScan w x s).freeSeq = s.freeSeq
    ∧ (renderingScan w x s).due = s.due ∧ (renderingScan w x s).pins = s.pins ∧ (renderingScan w x s).sc = s.sc
    ∧ (renderingScan w x s).pt = s.pt ∧ (renderingScan w x s).hcu = s.hcu ∧ (renderingScan w x s).stu = s.stu
    ∧ (renderingScan w x s).fau = s.fau ∧ (renderingScan w x s).ssq = s.ssq := by
  unfold renderingScan
  repeat' split
  all_goals simp

@[simp] theorem blindScan_frame (w : WinchId) (r : Reading) (x : Int) (s : State) :
    (blindScan w r x s).pending = s.pending ∧ (blindScan w r x s).powered = s.powered
    ∧ (blindScan w r x s).now = s.now ∧ (blindScan w r x s).freeSeq = s.freeSeq
    ∧ (blindScan w r x s).due = s.due ∧ (blindScan w r x s).pins = s.pins ∧ (blindScan w r x s).sc = s.sc
    ∧ (blindScan w r x s).pt = s.pt ∧ (blindScan w r x s).hcu = s.hcu ∧ (blindScan w r x s).tsu = s.tsu
    ∧ (blindScan w r x s).stu = s.stu ∧ (blindScan w r x s).fau = s.fau ∧ (blindScan w r x s).tau = s.tau
    ∧ (blindScan w r x s).ssq = s.ssq ∧ (blindScan w r x s).dch = s.dch := by
  unfold blindScan
  repeat' split
  all_goals simp

@[simp] theorem scanTension_frame (w : WinchId) (r : Reading) (x : Int) (s : State) :
    (scanTension w r x s).pending = s.pending ∧ (scanTension w r x s).powered = s.powered
    ∧ (scanTension w r x s).now = s.now ∧ (scanTension w r x s).freeSeq = s.freeSeq
    ∧ (scanTension w r x s).due = s.due ∧ (scanTension w r x s).pins = s.pins ∧ (scanTension w r x s).sc = s.sc
    ∧ (scanTension w r x s).pt = s.pt ∧ (scanTension w r x s).hcu = s.hcu ∧ (scanTension w r x s).stu = s.stu
    ∧ (scanTension w r x s).fau = s.fau ∧ (scanTension w r x s).ssq = s.ssq := by
  unfold scanTension
  repeat' split
  all_goals simp

@[simp] theorem scanNoTension_frame (w : WinchId) (s : State) :
    (scanNoTension w s).pending = s.pending ∧ (scanNoTension w s).powered = s.powered
    ∧ (scanNoTension w s).now = s.now ∧ (scanNoTension w s).freeSeq = s.freeSeq
    ∧ (scanNoTension w s).due = s.due ∧ (scanNoTension w s).pins = s.pins ∧ (scanNoTension w s).sc = s.sc
    ∧ (scanNoTension w s).pt = s.pt ∧ (scanNoTension w s).hcu = s.hcu ∧ (scanNoTension w s).tsu = s.tsu
    ∧ (scanNoTension w s).stu = s.stu ∧ (scanNoTension w s).fau = s.fau ∧ (scanNoTension w s).tau = s.tau
    ∧ (scanNoTension w s).ssq = s.ssq := by
  unfold scanNoTension
  split <;> simp

@[simp] theorem winchScan_frame (w : WinchId) (m : SampleSet) (s : State) :
    (winchScan w m s).pending = s.pending ∧ (winchScan w m s).powered = s.powered
    ∧ (winchScan w m s).now = s.now ∧ (winchScan w m s).freeSeq = s.freeSeq ∧ (winchScan w m s).due = s.due
    ∧ (winchScan w m s).pins = s.pins ∧ (winchScan w m s).sc = s.sc ∧ (winchScan w m s).pt = s.pt
    ∧ (winchScan w m s).hcu = s.hcu ∧ (winchScan w m s).stu = s.stu ∧ (winchScan w m s).fau = s.fau
    ∧ (winchScan w m s).ssq = s.ssq := by
  unfold winchScan
  repeat' split
  all_goals simp

@[simp] theorem startDrive_frame (w : WinchId) (s : State) :
    (startDrive w s).pending = s.pending ∧ (startDrive w s).powered = s.powered ∧ (startDrive w s).now = s.now
    ∧ (startDrive w s).freeSeq = s.freeSeq ∧ (startDrive w s).due = s.due ∧ (startDrive w s).pins = s.pins
    ∧ (startDrive w s).sc = s.sc ∧ (startDrive w s).tbi = s.tbi ∧ (startDrive w s).pt = s.pt
    ∧ (startDrive w s).hcu = s.hcu ∧ (startDrive w s).tsu = s.tsu ∧ (startDrive w s).stu = s.stu
    ∧ (startDrive w s).fau = s.fau ∧ (startDrive w s).tau = s.tau ∧ (startDrive w s).ssq = s.ssq := by
  simp [startDrive]

@[simp] theorem takeLeg_frame (n : Seq16) (s : State) :
    (takeLeg n s).pending = s.pending ∧ (takeLeg n s).powered = s.powered ∧ (takeLeg n s).now = s.now
    ∧ (takeLeg n s).freeSeq = s.freeSeq ∧ (takeLeg n s).due = s.due ∧ (takeLeg n s).pins = s.pins
    ∧ (takeLeg n s).sc = s.sc ∧ (takeLeg n s).pt = s.pt ∧ (takeLeg n s).hcu = s.hcu ∧ (takeLeg n s).tsu = s.tsu
    ∧ (takeLeg n s).stu = s.stu ∧ (takeLeg n s).cu = s.cu ∧ (takeLeg n s).tau = s.tau
    ∧ (takeLeg n s).ssq = s.ssq ∧ (takeLeg n s).dch = s.dch := by
  simp only [takeLeg]
  repeat' split
  all_goals simp

@[simp] theorem ownLeg_frame (f : Frame) (s : State) :
    (ownLeg f s).pending = s.pending ∧ (ownLeg f s).powered = s.powered ∧ (ownLeg f s).now = s.now
    ∧ (ownLeg f s).freeSeq = s.freeSeq ∧ (ownLeg f s).due = s.due ∧ (ownLeg f s).pins = s.pins
    ∧ (ownLeg f s).sc = s.sc ∧ (ownLeg f s).pt = s.pt ∧ (ownLeg f s).hcu = s.hcu ∧ (ownLeg f s).tsu = s.tsu
    ∧ (ownLeg f s).stu = s.stu ∧ (ownLeg f s).cu = s.cu ∧ (ownLeg f s).tau = s.tau ∧ (ownLeg f s).ssq = s.ssq
    ∧ (ownLeg f s).dch = s.dch := by
  simp [ownLeg]

@[simp] theorem ownTrip_frame (f : Frame) (s : State) :
    (ownTrip f s).pending = s.pending ∧ (ownTrip f s).powered = s.powered ∧ (ownTrip f s).now = s.now
    ∧ (ownTrip f s).freeSeq = s.freeSeq ∧ (ownTrip f s).due = s.due ∧ (ownTrip f s).pins = s.pins
    ∧ (ownTrip f s).sc = s.sc ∧ (ownTrip f s).pt = s.pt ∧ (ownTrip f s).hcu = s.hcu ∧ (ownTrip f s).stu = s.stu
    ∧ (ownTrip f s).fau = s.fau ∧ (ownTrip f s).ssq = s.ssq := by
  unfold ownTrip
  split <;> simp

@[simp] theorem ownClearTrip_frame (f : Frame) (s : State) :
    (ownClearTrip f s).pending = s.pending ∧ (ownClearTrip f s).powered = s.powered
    ∧ (ownClearTrip f s).now = s.now ∧ (ownClearTrip f s).freeSeq = s.freeSeq ∧ (ownClearTrip f s).due = s.due
    ∧ (ownClearTrip f s).pins = s.pins ∧ (ownClearTrip f s).sc = s.sc ∧ (ownClearTrip f s).pt = s.pt
    ∧ (ownClearTrip f s).hcu = s.hcu ∧ (ownClearTrip f s).tsu = s.tsu ∧ (ownClearTrip f s).stu = s.stu
    ∧ (ownClearTrip f s).cu = s.cu ∧ (ownClearTrip f s).fau = s.fau ∧ (ownClearTrip f s).ssq = s.ssq
    ∧ (ownClearTrip f s).dch = s.dch := by
  unfold ownClearTrip
  repeat' split
  all_goals simp

@[simp] theorem ownAck_frame (f : Frame) (s : State) :
    (ownAck f s).pending = s.pending ∧ (ownAck f s).powered = s.powered ∧ (ownAck f s).now = s.now
    ∧ (ownAck f s).freeSeq = s.freeSeq ∧ (ownAck f s).due = s.due ∧ (ownAck f s).pins = s.pins
    ∧ (ownAck f s).sc = s.sc ∧ (ownAck f s).tbi = s.tbi ∧ (ownAck f s).pt = s.pt ∧ (ownAck f s).hcu = s.hcu
    ∧ (ownAck f s).tsu = s.tsu ∧ (ownAck f s).cu = s.cu ∧ (ownAck f s).fau = s.fau ∧ (ownAck f s).ssq = s.ssq := by
  simp only [ownAck]
  repeat' split
  all_goals simp

@[simp] theorem tauScan_frame (m : SampleSet) (s : State) :
    (tauScan m s).pending = s.pending ∧ (tauScan m s).powered = s.powered ∧ (tauScan m s).now = s.now
    ∧ (tauScan m s).freeSeq = s.freeSeq ∧ (tauScan m s).due = s.due ∧ (tauScan m s).pins = s.pins
    ∧ (tauScan m s).sc = s.sc ∧ (tauScan m s).pt = s.pt ∧ (tauScan m s).hcu = s.hcu ∧ (tauScan m s).stu = s.stu
    ∧ (tauScan m s).fau = s.fau ∧ (tauScan m s).ssq = s.ssq := by
  unfold tauScan
  repeat' split
  all_goals simp

@[simp] theorem completeScan_frame (p : ScanPins) (s : State) :
    (completeScan p s).pending = s.pending ∧ (completeScan p s).powered = s.powered
    ∧ (completeScan p s).now = s.now ∧ (completeScan p s).freeSeq = s.freeSeq ∧ (completeScan p s).pins = s.pins
    ∧ (completeScan p s).sc = s.sc ∧ (completeScan p s).tbi = s.tbi ∧ (completeScan p s).pt = s.pt
    ∧ (completeScan p s).hcu = s.hcu ∧ (completeScan p s).tsu = s.tsu ∧ (completeScan p s).stu = s.stu
    ∧ (completeScan p s).cu = s.cu ∧ (completeScan p s).fau = s.fau ∧ (completeScan p s).tau = s.tau
    ∧ (completeScan p s).dch = s.dch := by
  simp [completeScan]

@[simp] theorem convertFrom_frame (i : Nat) (p : ScanPins) (s : State) :
    (convertFrom i p s).pending = s.pending ∧ (convertFrom i p s).powered = s.powered
    ∧ (convertFrom i p s).now = s.now ∧ (convertFrom i p s).freeSeq = s.freeSeq
    ∧ (convertFrom i p s).pins = s.pins ∧ (convertFrom i p s).sc = s.sc ∧ (convertFrom i p s).tbi = s.tbi
    ∧ (convertFrom i p s).pt = s.pt ∧ (convertFrom i p s).hcu = s.hcu ∧ (convertFrom i p s).tsu = s.tsu
    ∧ (convertFrom i p s).stu = s.stu ∧ (convertFrom i p s).cu = s.cu ∧ (convertFrom i p s).fau = s.fau
    ∧ (convertFrom i p s).tau = s.tau ∧ (convertFrom i p s).dch = s.dch := by
  unfold convertFrom
  split <;> simp

@[simp] theorem scanStart_frame (s : State) :
    (scanStart s).pending = s.pending ∧ (scanStart s).powered = s.powered ∧ (scanStart s).now = s.now
    ∧ (scanStart s).freeSeq = s.freeSeq ∧ (scanStart s).due = s.due ∧ (scanStart s).pins = s.pins
    ∧ (scanStart s).sc = s.sc ∧ (scanStart s).tbi = s.tbi ∧ (scanStart s).pt = s.pt ∧ (scanStart s).hcu = s.hcu
    ∧ (scanStart s).tsu = s.tsu ∧ (scanStart s).stu = s.stu ∧ (scanStart s).cu = s.cu
    ∧ (scanStart s).fau = s.fau ∧ (scanStart s).tau = s.tau ∧ (scanStart s).dch = s.dch := by
  simp [scanStart]

@[simp] theorem trigger_frame (p : ScanPins) (s : State) :
    (trigger p s).pending = s.pending ∧ (trigger p s).powered = s.powered ∧ (trigger p s).now = s.now
    ∧ (trigger p s).freeSeq = s.freeSeq ∧ (trigger p s).pins = s.pins ∧ (trigger p s).sc = s.sc
    ∧ (trigger p s).pt = s.pt ∧ (trigger p s).hcu = s.hcu ∧ (trigger p s).tsu = s.tsu
    ∧ (trigger p s).stu = s.stu ∧ (trigger p s).cu = s.cu ∧ (trigger p s).fau = s.fau
    ∧ (trigger p s).tau = s.tau ∧ (trigger p s).dch = s.dch := by
  unfold trigger
  split <;> simp

@[simp] theorem onSc_frame (f : Sc → Sc) (s : State) :
    (onSc f s).pending = s.pending ∧ (onSc f s).powered = s.powered ∧ (onSc f s).now = s.now
    ∧ (onSc f s).freeSeq = s.freeSeq ∧ (onSc f s).due = s.due ∧ (onSc f s).pins = s.pins
    ∧ (onSc f s).tbi = s.tbi ∧ (onSc f s).pt = s.pt ∧ (onSc f s).hcu = s.hcu ∧ (onSc f s).tsu = s.tsu
    ∧ (onSc f s).stu = s.stu ∧ (onSc f s).cu = s.cu ∧ (onSc f s).fau = s.fau ∧ (onSc f s).tau = s.tau
    ∧ (onSc f s).ssq = s.ssq ∧ (onSc f s).dch = s.dch := by
  simp [onSc]

@[simp] theorem refuseBlock_frame (f : Frame) (b : Option Block) (r : Reason) (s : State) :
    (refuseBlock f b r s).pending = s.pending ∧ (refuseBlock f b r s).powered = s.powered
    ∧ (refuseBlock f b r s).now = s.now ∧ (refuseBlock f b r s).freeSeq = s.freeSeq
    ∧ (refuseBlock f b r s).due = s.due ∧ (refuseBlock f b r s).pins = s.pins ∧ (refuseBlock f b r s).pt = s.pt
    ∧ (refuseBlock f b r s).hcu = s.hcu ∧ (refuseBlock f b r s).tsu = s.tsu ∧ (refuseBlock f b r s).stu = s.stu
    ∧ (refuseBlock f b r s).cu = s.cu ∧ (refuseBlock f b r s).fau = s.fau ∧ (refuseBlock f b r s).tau = s.tau
    ∧ (refuseBlock f b r s).ssq = s.ssq ∧ (refuseBlock f b r s).dch = s.dch := by
  simp [refuseBlock]

@[simp] theorem acceptBlock_frame (b : Block) (s : State) :
    (acceptBlock b s).pending = s.pending ∧ (acceptBlock b s).powered = s.powered
    ∧ (acceptBlock b s).now = s.now ∧ (acceptBlock b s).freeSeq = s.freeSeq ∧ (acceptBlock b s).due = s.due
    ∧ (acceptBlock b s).pins = s.pins ∧ (acceptBlock b s).pt = s.pt ∧ (acceptBlock b s).cu = s.cu := by
  simp only [acceptBlock]
  repeat' split
  all_goals simp

@[simp] theorem checkBlock_frame (f : Frame) (b : Block) (s : State) :
    (checkBlock f b s).pending = s.pending ∧ (checkBlock f b s).powered = s.powered
    ∧ (checkBlock f b s).now = s.now ∧ (checkBlock f b s).freeSeq = s.freeSeq ∧ (checkBlock f b s).due = s.due
    ∧ (checkBlock f b s).pins = s.pins ∧ (checkBlock f b s).pt = s.pt ∧ (checkBlock f b s).cu = s.cu := by
  unfold checkBlock
  repeat' split
  all_goals simp

@[simp] theorem takePart_frame (f : Frame) (b : Block) (s : State) :
    (takePart f b s).pending = s.pending ∧ (takePart f b s).powered = s.powered ∧ (takePart f b s).now = s.now
    ∧ (takePart f b s).freeSeq = s.freeSeq ∧ (takePart f b s).due = s.due ∧ (takePart f b s).pins = s.pins
    ∧ (takePart f b s).pt = s.pt ∧ (takePart f b s).cu = s.cu := by
  simp only [takePart]
  repeat' split
  all_goals simp

@[simp] theorem ownCommission_frame (f : Frame) (s : State) :
    (ownCommission f s).pending = s.pending ∧ (ownCommission f s).powered = s.powered
    ∧ (ownCommission f s).now = s.now ∧ (ownCommission f s).freeSeq = s.freeSeq
    ∧ (ownCommission f s).due = s.due ∧ (ownCommission f s).pins = s.pins ∧ (ownCommission f s).pt = s.pt
    ∧ (ownCommission f s).cu = s.cu := by
  unfold ownCommission
  repeat' split
  all_goals simp

@[simp] theorem ownHold_frame (f : Frame) (s : State) :
    (ownHold f s).pending = s.pending ∧ (ownHold f s).powered = s.powered ∧ (ownHold f s).now = s.now
    ∧ (ownHold f s).freeSeq = s.freeSeq ∧ (ownHold f s).due = s.due ∧ (ownHold f s).pins = s.pins
    ∧ (ownHold f s).pt = s.pt ∧ (ownHold f s).hcu = s.hcu ∧ (ownHold f s).cu = s.cu ∧ (ownHold f s).fau = s.fau
    ∧ (ownHold f s).ssq = s.ssq := by
  unfold ownHold
  repeat' split
  all_goals simp

@[simp] theorem ownRelease_frame (f : Frame) (s : State) :
    (ownRelease f s).pending = s.pending ∧ (ownRelease f s).powered = s.powered ∧ (ownRelease f s).now = s.now
    ∧ (ownRelease f s).freeSeq = s.freeSeq ∧ (ownRelease f s).due = s.due ∧ (ownRelease f s).pins = s.pins
    ∧ (ownRelease f s).pt = s.pt ∧ (ownRelease f s).hcu = s.hcu ∧ (ownRelease f s).cu = s.cu
    ∧ (ownRelease f s).fau = s.fau ∧ (ownRelease f s).ssq = s.ssq := by
  unfold ownRelease
  repeat' split
  all_goals simp

@[simp] theorem loseRetention_frame (s : State) :
    (loseRetention s).pending = s.pending ∧ (loseRetention s).powered = s.powered
    ∧ (loseRetention s).now = s.now ∧ (loseRetention s).due = s.due ∧ (loseRetention s).pins = s.pins
    ∧ (loseRetention s).sc = s.sc ∧ (loseRetention s).tbi = s.tbi ∧ (loseRetention s).pt = s.pt
    ∧ (loseRetention s).hcu = s.hcu ∧ (loseRetention s).tsu = s.tsu ∧ (loseRetention s).stu = s.stu
    ∧ (loseRetention s).cu = s.cu ∧ (loseRetention s).tau = s.tau ∧ (loseRetention s).ssq = s.ssq
    ∧ (loseRetention s).dch = s.dch := by
  simp [loseRetention]

@[simp] theorem queueReply_frame (p : List Byte) (s : State) :
    (queueReply p s).pending = s.pending ∧ (queueReply p s).powered = s.powered ∧ (queueReply p s).now = s.now
    ∧ (queueReply p s).freeSeq = s.freeSeq ∧ (queueReply p s).due = s.due ∧ (queueReply p s).pins = s.pins
    ∧ (queueReply p s).sc = s.sc ∧ (queueReply p s).pt = s.pt ∧ (queueReply p s).hcu = s.hcu
    ∧ (queueReply p s).tsu = s.tsu ∧ (queueReply p s).stu = s.stu ∧ (queueReply p s).cu = s.cu
    ∧ (queueReply p s).fau = s.fau ∧ (queueReply p s).tau = s.tau ∧ (queueReply p s).ssq = s.ssq
    ∧ (queueReply p s).dch = s.dch := by
  simp [queueReply]

@[simp] theorem usedFree_frame (x : Subject) (s : State) :
    (usedFree x s).pending = s.pending ∧ (usedFree x s).powered = s.powered ∧ (usedFree x s).now = s.now
    ∧ (usedFree x s).due = s.due ∧ (usedFree x s).pins = s.pins ∧ (usedFree x s).sc = s.sc
    ∧ (usedFree x s).tbi = s.tbi ∧ (usedFree x s).pt = s.pt ∧ (usedFree x s).hcu = s.hcu
    ∧ (usedFree x s).tsu = s.tsu ∧ (usedFree x s).stu = s.stu ∧ (usedFree x s).cu = s.cu
    ∧ (usedFree x s).fau = s.fau ∧ (usedFree x s).tau = s.tau ∧ (usedFree x s).ssq = s.ssq
    ∧ (usedFree x s).dch = s.dch := by
  unfold usedFree
  split <;> simp

@[simp] theorem ownQuery_frame (x : Subject) (f : Frame) (s : State) :
    (ownQuery x f s).pending = s.pending ∧ (ownQuery x f s).powered = s.powered ∧ (ownQuery x f s).now = s.now
    ∧ (ownQuery x f s).due = s.due ∧ (ownQuery x f s).pins = s.pins ∧ (ownQuery x f s).sc = s.sc
    ∧ (ownQuery x f s).pt = s.pt ∧ (ownQuery x f s).hcu = s.hcu ∧ (ownQuery x f s).tsu = s.tsu
    ∧ (ownQuery x f s).stu = s.stu ∧ (ownQuery x f s).cu = s.cu ∧ (ownQuery x f s).fau = s.fau
    ∧ (ownQuery x f s).tau = s.tau ∧ (ownQuery x f s).ssq = s.ssq ∧ (ownQuery x f s).dch = s.dch := by
  unfold ownQuery
  repeat' split
  all_goals simp

end Sys2Proof.Machine
end

