-- ==== Sys2Proof/Laws/Frames.lean ====
section
/-! SUPPORT. Which parts of the state each command can change: one lemma per meaning, over the operations' frames. -/

namespace Sys2Proof.Machine

open Sys2Proof

theorem onlyChanges_refl (ps : List StatePart) (s : State) : onlyChanges ps s s := by
  intro p _
  cases p <;> rfl

/-- A powered part does the command's work; an unpowered one nothing. -/
theorem live_next {f : State → State} {s t : State} (h : live f s = .next t) :
    t = if s.powered then f s else s := by
  simp only [live, Host.Outcome.next.injEq] at h
  exact h.symm

theorem live_onlyChanges {ps : List StatePart} {f : State → State} {s t : State} (h : live f s = .next t)
    (hf : onlyChanges ps s (f s)) : onlyChanges ps s t := by
  rw [live_next h]
  split
  · exact hf
  · exact onlyChanges_refl ps s

/-- An expiry does nothing on a stopped timer, and acts at the timer's end on a running one. -/
theorem atExpiry_cases (timer : Option Nat) (f : Nat → State → State) (s : State) :
    (timer = none ∧ atExpiry timer f s = s) ∨ ∃ t, timer = some t ∧ atExpiry timer f s = f t (reach t s) := by
  cases timer with
  | none => exact .inl ⟨rfl, rfl⟩
  | some t => exact .inr ⟨t, rfl, rfl⟩

/-- A command of the frame rows does nothing unless the oldest waiting frame is one of its own. -/
theorem takeFrame_cases (fits : Frame → Bool) (owner : Frame → State → State) (s : State) :
    takeFrame fits owner s = s ∨
      ∃ f rest, s.tbi.rxQueue = f :: rest ∧ fits f = true ∧
        takeFrame fits owner s = settleFrame (judge s f) f owner (dequeue s) := by
  unfold takeFrame
  cases h : s.tbi.rxQueue with
  | nil => exact .inl rfl
  | cons f rest =>
    by_cases hf : fits f = true
    · exact .inr ⟨f, rest, rfl, hf, by simp [hf]⟩
    · exact .inl (by simp [hf])

/-- The parts that the entry to SAFE at a duplicate can change (R182, R203). -/
def duplicateParts : List StatePart := [.sc, .tbi, .hcu, .tsu, .stu, .cu, .tau, .dch]

/-- What a frame row can change: what its owner can, the counters, and at a duplicate what SAFE changes. -/
theorem takeFrame_onlyChanges {ps : List StatePart} (fits : Frame → Bool) (owner : Frame → State → State) (s : State)
    (hd : ∀ p ∈ duplicateParts, p ∈ ps)
    (ho : ∀ f u, onlyChanges ps u (owner f u)) : onlyChanges ps s (takeFrame fits owner s) := by
  obtain h | ⟨f, rest, -, -, h⟩ := takeFrame_cases fits owner s
  · rw [h]; exact onlyChanges_refl ps s
  · rw [h]
    intro p hp
    have hq : p ∉ duplicateParts := fun hm => hp (hd p hm)
    have hw := ho f (count .received (dequeue s)) p hp
    cases judge s f <;> cases p <;> simp_all [settleFrame, StatePart.same, duplicateParts]

theorem execFrameReception_onlyChanges (bits : List Bool) {s t : State} (h : execFrameReception bits s = .next t) :
    onlyChanges [.tbi] s t := by
  refine live_onlyChanges h fun p hp => ?_
  cases p <;> simp_all [StatePart.same]

theorem execTrip_onlyChanges {s t : State} (h : execTrip s = .next t) :
    onlyChanges [.sc, .tbi, .hcu, .tsu, .stu, .cu, .tau, .dch] s t := by
  refine live_onlyChanges h (takeFrame_onlyChanges _ _ _ (by decide) fun f u p hp => ?_)
  cases p <;> simp_all [StatePart.same]

theorem execCap_onlyChanges {s t : State} (h : execCap s = .next t) :
    onlyChanges [.sc, .tbi, .pt, .hcu, .tsu, .stu, .cu, .tau, .dch] s t := by
  refine live_onlyChanges h (takeFrame_onlyChanges _ _ _ (by decide) fun f u p hp => ?_)
  cases p <;> simp_all [StatePart.same]

theorem execCommandRequest_onlyChanges {s t : State} (h : execCommandRequest s = .next t) :
    onlyChanges [.sc, .tbi, .hcu, .tsu, .stu, .cu, .tau, .dch] s t := by
  refine live_onlyChanges h (takeFrame_onlyChanges _ _ _ (by decide) fun f u p hp => ?_)
  cases p <;> simp_all [StatePart.same]

theorem execCommandGrant_onlyChanges {s t : State} (h : execCommandGrant s = .next t) :
    onlyChanges [.sc, .tbi, .hcu, .tsu, .stu, .cu, .tau, .dch] s t := by
  refine live_onlyChanges h (takeFrame_onlyChanges _ _ _ (by decide) fun f u p hp => ?_)
  cases p <;> simp_all [StatePart.same]

theorem execCommandDecline_onlyChanges {s t : State} (h : execCommandDecline s = .next t) :
    onlyChanges [.sc, .tbi, .hcu, .tsu, .stu, .cu, .tau, .dch] s t := by
  refine live_onlyChanges h (takeFrame_onlyChanges _ _ _ (by decide) fun f u p hp => ?_)
  cases p <;> simp_all [StatePart.same]

theorem execCommandSeize_onlyChanges {s t : State} (h : execCommandSeize s = .next t) :
    onlyChanges [.sc, .tbi, .hcu, .tsu, .stu, .cu, .tau, .dch] s t := by
  refine live_onlyChanges h (takeFrame_onlyChanges _ _ _ (by decide) fun f u p hp => ?_)
  cases p <;> simp_all [StatePart.same]

theorem execClearTrip_onlyChanges {s t : State} (h : execClearTrip s = .next t) :
    onlyChanges [.sc, .tbi, .hcu, .tsu, .stu, .cu, .tau, .dch] s t := by
  refine live_onlyChanges h (takeFrame_onlyChanges _ _ _ (by decide) fun f u p hp => ?_)
  cases p <;> simp_all [StatePart.same]

theorem execAckAlarms_onlyChanges {s t : State} (h : execAckAlarms s = .next t) :
    onlyChanges [.sc, .tbi, .hcu, .tsu, .stu, .cu, .tau, .dch] s t := by
  refine live_onlyChanges h (takeFrame_onlyChanges _ _ _ (by decide) fun f u p hp => ?_)
  cases p <;> simp_all [StatePart.same]

theorem execHoldStation_onlyChanges {s t : State} (h : execHoldStation s = .next t) :
    onlyChanges [.sc, .tbi, .hcu, .tsu, .stu, .cu, .tau, .dch] s t := by
  refine live_onlyChanges h (takeFrame_onlyChanges _ _ _ (by decide) fun f u p hp => ?_)
  cases p <;> simp_all [StatePart.same]

theorem execReleaseStation_onlyChanges {s t : State} (h : execReleaseStation s = .next t) :
    onlyChanges [.sc, .tbi, .hcu, .tsu, .stu, .cu, .tau, .dch] s t := by
  refine live_onlyChanges h (takeFrame_onlyChanges _ _ _ (by decide) fun f u p hp => ?_)
  cases p <;> simp_all [StatePart.same]

theorem execDemand_onlyChanges {s t : State} (h : execDemand s = .next t) :
    onlyChanges [.sc, .tbi, .hcu, .tsu, .stu, .cu, .tau, .dch] s t := by
  refine live_onlyChanges h (takeFrame_onlyChanges _ _ _ (by decide) fun f u p hp => ?_)
  cases p <;> simp_all [StatePart.same]

theorem execCoupleMakeFast_onlyChanges {s t : State} (h : execCoupleMakeFast s = .next t) :
    onlyChanges [.sc, .tbi, .hcu, .tsu, .stu, .cu, .tau, .dch] s t := by
  refine live_onlyChanges h (takeFrame_onlyChanges _ _ _ (by decide) fun f u p hp => ?_)
  unfold ownCouple
  repeat' split
  all_goals cases p <;> simp_all [StatePart.same]

theorem execCoupleRelease_onlyChanges {s t : State} (h : execCoupleRelease s = .next t) :
    onlyChanges [.sc, .tbi, .hcu, .tsu, .stu, .cu, .tau, .dch] s t := by
  refine live_onlyChanges h (takeFrame_onlyChanges _ _ _ (by decide) fun f u p hp => ?_)
  unfold ownCouple
  repeat' split
  all_goals cases p <;> simp_all [StatePart.same]

theorem execStatus_onlyChanges {s t : State} (h : execStatus s = .next t) :
    onlyChanges [.sc, .tbi, .pt, .hcu, .tsu, .stu, .cu, .tau, .dch] s t := by
  refine live_onlyChanges h (takeFrame_onlyChanges _ _ _ (by decide) fun f u p hp => ?_)
  cases p <;> simp_all [StatePart.same]

theorem execLeg_onlyChanges {s t : State} (h : execLeg s = .next t) :
    onlyChanges [.sc, .tbi, .hcu, .tsu, .stu, .cu, .fau, .tau, .dch] s t := by
  refine live_onlyChanges h (takeFrame_onlyChanges _ _ _ (by decide) fun f u p hp => ?_)
  cases p <;> simp_all [StatePart.same]

theorem execAccount_onlyChanges {s t : State} (h : execAccount s = .next t) :
    onlyChanges [.sc, .tbi, .pt, .hcu, .tsu, .stu, .cu, .fau, .tau, .dch] s t := by
  refine live_onlyChanges h (takeFrame_onlyChanges _ _ _ (by decide) fun f u p hp => ?_)
  cases p <;> simp_all [StatePart.same]

theorem execCommission_onlyChanges {s t : State} (h : execCommission s = .next t) :
    onlyChanges [.sc, .tbi, .hcu, .tsu, .stu, .cu, .fau, .tau, .ssq, .dch] s t := by
  refine live_onlyChanges h (takeFrame_onlyChanges _ _ _ (by decide) fun f u p hp => ?_)
  cases p <;> simp_all [StatePart.same]

theorem execQueryCounters_onlyChanges {s t : State} (h : execQueryCounters s = .next t) :
    onlyChanges [.freeSeq, .sc, .tbi, .hcu, .tsu, .stu, .cu, .tau, .dch] s t := by
  refine live_onlyChanges h (takeFrame_onlyChanges _ _ _ (by decide) fun f u p hp => ?_)
  cases p <;> simp_all [StatePart.same]

theorem execQueryAlarms_onlyChanges {s t : State} (h : execQueryAlarms s = .next t) :
    onlyChanges [.freeSeq, .sc, .tbi, .hcu, .tsu, .stu, .cu, .tau, .dch] s t := by
  refine live_onlyChanges h (takeFrame_onlyChanges _ _ _ (by decide) fun f u p hp => ?_)
  cases p <;> simp_all [StatePart.same]

theorem execQueryPeer_onlyChanges {s t : State} (h : execQueryPeer s = .next t) :
    onlyChanges [.freeSeq, .sc, .tbi, .hcu, .tsu, .stu, .cu, .tau, .dch] s t := by
  refine live_onlyChanges h (takeFrame_onlyChanges _ _ _ (by decide) fun f u p hp => ?_)
  cases p <;> simp_all [StatePart.same]

theorem execQueryLeg_onlyChanges {s t : State} (h : execQueryLeg s = .next t) :
    onlyChanges [.freeSeq, .sc, .tbi, .hcu, .tsu, .stu, .cu, .tau, .dch] s t := by
  refine live_onlyChanges h (takeFrame_onlyChanges _ _ _ (by decide) fun f u p hp => ?_)
  cases p <;> simp_all [StatePart.same]

theorem execQueryConvoyFuel_onlyChanges {s t : State} (h : execQueryConvoyFuel s = .next t) :
    onlyChanges [.freeSeq, .sc, .tbi, .hcu, .tsu, .stu, .cu, .tau, .dch] s t := by
  refine live_onlyChanges h (takeFrame_onlyChanges _ _ _ (by decide) fun f u p hp => ?_)
  cases p <;> simp_all [StatePart.same]

theorem execQueryCommission_onlyChanges {s t : State} (h : execQueryCommission s = .next t) :
    onlyChanges [.freeSeq, .sc, .tbi, .hcu, .tsu, .stu, .cu, .tau, .dch] s t := by
  refine live_onlyChanges h (takeFrame_onlyChanges _ _ _ (by decide) fun f u p hp => ?_)
  cases p <;> simp_all [StatePart.same]

theorem execReply_onlyChanges {s t : State} (h : execReply s = .next t) :
    onlyChanges [.sc, .tbi, .hcu, .tsu, .stu, .cu, .tau, .dch] s t := by
  refine live_onlyChanges h (takeFrame_onlyChanges _ _ _ (by decide) fun f u p hp => ?_)
  cases p <;> simp_all [StatePart.same]

theorem execUnknownClass_onlyChanges {s t : State} (h : execUnknownClass s = .next t) :
    onlyChanges [.sc, .tbi, .hcu, .tsu, .stu, .cu, .tau, .dch] s t := by
  refine live_onlyChanges h (takeFrame_onlyChanges _ _ _ (by decide) fun f u p hp => ?_)
  cases p <;> simp_all [StatePart.same]

theorem execLineIdle_onlyChanges {s t : State} (h : execLineIdle s = .next t) :
    onlyChanges [.tbi] s t := by
  refine live_onlyChanges h fun p hp => ?_
  repeat' split
  all_goals cases p <;> simp_all [StatePart.same]

theorem execArbitrationLoss_onlyChanges {s t : State} (h : execArbitrationLoss s = .next t) :
    onlyChanges [.tbi] s t := by
  refine live_onlyChanges h fun p hp => ?_
  cases p <;> simp_all [StatePart.same]

theorem execReadbackError_onlyChanges {s t : State} (h : execReadbackError s = .next t) :
    onlyChanges [.tbi, .dch] s t := by
  refine live_onlyChanges h fun p hp => ?_
  repeat' split
  all_goals cases p <;> simp_all [StatePart.same]

theorem execTransmissionComplete_onlyChanges {s t : State} (h : execTransmissionComplete s = .next t) :
    onlyChanges [.tbi] s t := by
  refine live_onlyChanges h fun p hp => ?_
  cases p <;> simp_all [StatePart.same]

theorem execMuteTimerExpiry_onlyChanges {s t : State} (h : execMuteTimerExpiry s = .next t) :
    onlyChanges [.now, .tbi, .dch] s t := by
  refine live_onlyChanges h fun p hp => ?_
  simp only [atExpiry]
  repeat' split
  all_goals cases p <;> simp_all [StatePart.same]

theorem execFrameLifetimeExpiry_onlyChanges (k : TxSlot) {s t : State} (h : execFrameLifetimeExpiry k s = .next t) :
    onlyChanges [.now, .tbi] s t := by
  refine live_onlyChanges h fun p hp => ?_
  repeat' split
  all_goals cases p <;> simp_all [StatePart.same]

theorem execReportTimerExpiry_onlyChanges {s t : State} (h : execReportTimerExpiry s = .next t) :
    onlyChanges [.now, .sc, .tbi] s t := by
  refine live_onlyChanges h fun p hp => ?_
  simp only [atExpiry]
  repeat' split
  all_goals cases p <;> simp_all [StatePart.same]

theorem execJoinTimerExpiry_onlyChanges {s t : State} (h : execJoinTimerExpiry s = .next t) :
    onlyChanges [.now, .sc, .tbi, .tsu, .stu, .cu, .tau, .dch] s t := by
  refine live_onlyChanges h fun p hp => ?_
  simp only [atExpiry]
  repeat' split
  all_goals cases p <;> simp_all [StatePart.same]

theorem execScanTrigger_onlyChanges (q : ScanPins) {s t : State} (h : execScanTrigger q s = .next t) :
    onlyChanges [.now, .due, .tbi, .ssq] s t := by
  refine live_onlyChanges h fun p hp => ?_
  simp only [atExpiry]
  repeat' split
  all_goals cases p <;> simp_all [StatePart.same]

theorem execPulseEdge_onlyChanges (i : PulseInput) {s t : State} (h : execPulseEdge i s = .next t) :
    onlyChanges [.ssq] s t := by
  refine live_onlyChanges h fun p hp => ?_
  repeat' split
  all_goals cases p <;> simp_all [StatePart.same]

theorem execConversionEnd_onlyChanges (raw : BitVec 12) (q : ScanPins) {s t : State} (h : execConversionEnd raw q s = .next t) :
    onlyChanges [.due, .ssq] s t := by
  refine live_onlyChanges h fun p hp => ?_
  repeat' split
  all_goals cases p <;> simp_all [StatePart.same]

theorem execInterruptedConversionEnd_onlyChanges {s t : State} (h : execInterruptedConversionEnd s = .next t) :
    onlyChanges [.ssq] s t := by
  refine live_onlyChanges h fun p hp => ?_
  repeat' split
  all_goals cases p <;> simp_all [StatePart.same]

theorem execHcuScanCompletion_onlyChanges {s t : State} (h : execHcuScanCompletion s = .next t) :
    onlyChanges [.freeSeq, .due, .tbi, .hcu, .dch] s t := by
  refine live_onlyChanges h fun p hp => ?_
  repeat' split
  all_goals cases p <;> simp_all [StatePart.same]

theorem execTsuScanCompletion_onlyChanges {s t : State} (h : execTsuScanCompletion s = .next t) :
    onlyChanges [.due, .tsu, .tau, .dch] s t := by
  refine live_onlyChanges h fun p hp => ?_
  repeat' split
  all_goals cases p <;> simp_all [StatePart.same]

theorem execStuScanCompletion_onlyChanges {s t : State} (h : execStuScanCompletion s = .next t) :
    onlyChanges [.due, .stu, .dch] s t := by
  refine live_onlyChanges h fun p hp => ?_
  repeat' split
  all_goals cases p <;> simp_all [StatePart.same]

theorem execCuScanCompletion_onlyChanges {s t : State} (h : execCuScanCompletion s = .next t) :
    onlyChanges [.due, .tbi, .tsu, .cu, .tau, .dch] s t := by
  refine live_onlyChanges h fun p hp => ?_
  repeat' split
  all_goals cases p <;> simp_all [StatePart.same]

theorem execFauScanCompletion_onlyChanges {s t : State} (h : execFauScanCompletion s = .next t) :
    onlyChanges [.due, .fau, .tau] s t := by
  refine live_onlyChanges h fun p hp => ?_
  repeat' split
  all_goals cases p <;> simp_all [StatePart.same]

theorem execTauScanCompletion_onlyChanges {s t : State} (h : execTauScanCompletion s = .next t) :
    onlyChanges [.due, .tbi, .tsu, .cu, .tau, .dch] s t := by
  refine live_onlyChanges h fun p hp => ?_
  repeat' split
  all_goals cases p <;> simp_all [StatePart.same]

theorem execRequestTimerExpiry_onlyChanges {s t : State} (h : execRequestTimerExpiry s = .next t) :
    onlyChanges [.now, .hcu] s t := by
  refine live_onlyChanges h fun p hp => ?_
  simp only [atExpiry]
  repeat' split
  all_goals cases p <;> simp_all [StatePart.same]

theorem execDemandTimerExpiry_onlyChanges {s t : State} (h : execDemandTimerExpiry s = .next t) :
    onlyChanges [.now, .tbi, .hcu] s t := by
  refine live_onlyChanges h fun p hp => ?_
  simp only [atExpiry]
  repeat' split
  all_goals cases p <;> simp_all [StatePart.same]

theorem execHelmLossTimerExpiry_onlyChanges {s t : State} (h : execHelmLossTimerExpiry s = .next t) :
    onlyChanges [.now, .hcu] s t := by
  refine live_onlyChanges h fun p hp => ?_
  simp only [atExpiry]
  repeat' split
  all_goals cases p <;> simp_all [StatePart.same]

theorem execStaleDeadline_onlyChanges (n : Station) {s t : State} (h : execStaleDeadline n s = .next t) :
    onlyChanges [.now, .pt] s t := by
  refine live_onlyChanges h fun p hp => ?_
  simp only [atExpiry]
  repeat' split
  all_goals cases p <;> simp_all [StatePart.same]

theorem execLossDeadline_onlyChanges (n : Station) {s t : State} (h : execLossDeadline n s = .next t) :
    onlyChanges [.now, .pt, .hcu] s t := by
  refine live_onlyChanges h fun p hp => ?_
  simp only [atExpiry]
  repeat' split
  all_goals cases p <;> simp_all [StatePart.same]

theorem execRundownTimeout_onlyChanges {s t : State} (h : execRundownTimeout s = .next t) :
    onlyChanges [.now, .tsu, .tau, .dch] s t := by
  refine live_onlyChanges h fun p hp => ?_
  simp only [atExpiry]
  repeat' split
  all_goals cases p <;> simp_all [StatePart.same]

theorem execDwellExpiry_onlyChanges {s t : State} (h : execDwellExpiry s = .next t) :
    onlyChanges [.now, .tsu, .dch] s t := by
  refine live_onlyChanges h fun p hp => ?_
  simp only [atExpiry]
  repeat' split
  all_goals cases p <;> simp_all [StatePart.same]

theorem execSettleExpiry_onlyChanges {s t : State} (h : execSettleExpiry s = .next t) :
    onlyChanges [.now, .tsu, .dch] s t := by
  refine live_onlyChanges h fun p hp => ?_
  simp only [atExpiry]
  repeat' split
  all_goals cases p <;> simp_all [StatePart.same]

theorem execJamTimerExpiry_onlyChanges {s t : State} (h : execJamTimerExpiry s = .next t) :
    onlyChanges [.now, .stu, .tau, .dch] s t := by
  refine live_onlyChanges h fun p hp => ?_
  simp only [atExpiry]
  repeat' split
  all_goals cases p <;> simp_all [StatePart.same]

theorem execSteerStopActive_onlyChanges {s t : State} (h : execSteerStopActive s = .next t) :
    onlyChanges [.pins, .stu, .tau, .dch] s t := by
  refine live_onlyChanges h fun p hp => ?_
  dsimp only
  repeat' split
  all_goals cases p <;> simp_all [StatePart.same]

theorem execSteerStopInactive_onlyChanges {s t : State} (h : execSteerStopInactive s = .next t) :
    onlyChanges [.pins] s t := by
  refine live_onlyChanges h fun p hp => ?_
  cases p <;> simp_all [StatePart.same]

theorem execEndStopActive_onlyChanges (x : RudderSide) {s t : State} (h : execEndStopActive x s = .next t) :
    onlyChanges [.pins, .dch] s t := by
  refine live_onlyChanges h fun p hp => ?_
  dsimp only
  repeat' split
  all_goals cases p <;> simp_all [StatePart.same]

theorem execEndStopInactive_onlyChanges (x : RudderSide) {s t : State} (h : execEndStopInactive x s = .next t) :
    onlyChanges [.pins] s t := by
  refine live_onlyChanges h fun p hp => ?_
  cases p <;> simp_all [StatePart.same]

theorem execTakeupLimitExpiry_onlyChanges (w : WinchId) {s t : State} (h : execTakeupLimitExpiry w s = .next t) :
    onlyChanges [.now, .tbi, .cu, .tau, .dch] s t := by
  refine live_onlyChanges h fun p hp => ?_
  simp only [atExpiry]
  repeat' split
  all_goals cases p <;> simp_all [StatePart.same]

theorem execRenderLimitExpiry_onlyChanges (w : WinchId) {s t : State} (h : execRenderLimitExpiry w s = .next t) :
    onlyChanges [.now, .tbi, .cu, .dch] s t := by
  refine live_onlyChanges h fun p hp => ?_
  simp only [atExpiry]
  repeat' split
  all_goals cases p <;> simp_all [StatePart.same]

theorem execReleaseTimeExpiry_onlyChanges (w : WinchId) {s t : State} (h : execReleaseTimeExpiry w s = .next t) :
    onlyChanges [.now, .tbi, .cu, .dch] s t := by
  refine live_onlyChanges h fun p hp => ?_
  simp only [atExpiry]
  repeat' split
  all_goals cases p <;> simp_all [StatePart.same]

theorem execBrakeDwellExpiry_onlyChanges (w : WinchId) {s t : State} (h : execBrakeDwellExpiry w s = .next t) :
    onlyChanges [.now, .cu, .dch] s t := by
  refine live_onlyChanges h fun p hp => ?_
  simp only [atExpiry]
  repeat' split
  all_goals cases p <;> simp_all [StatePart.same]

theorem execCapRepeatExpiry_onlyChanges (w : WinchId) {s t : State} (h : execCapRepeatExpiry w s = .next t) :
    onlyChanges [.now, .tbi, .cu] s t := by
  refine live_onlyChanges h fun p hp => ?_
  simp only [atExpiry]
  repeat' split
  all_goals cases p <;> simp_all [StatePart.same]

theorem execAccountTimerExpiry_onlyChanges {s t : State} (h : execAccountTimerExpiry s = .next t) :
    onlyChanges [.now, .tbi, .fau, .tau] s t := by
  refine live_onlyChanges h fun p hp => ?_
  simp only [atExpiry]
  repeat' split
  all_goals cases p <;> simp_all [StatePart.same]

theorem execTripRepeatExpiry_onlyChanges {s t : State} (h : execTripRepeatExpiry s = .next t) :
    onlyChanges [.now, .tbi, .tau] s t := by
  refine live_onlyChanges h fun p hp => ?_
  simp only [atExpiry]
  repeat' split
  all_goals cases p <;> simp_all [StatePart.same]

theorem execPeriodBoundary_onlyChanges {s t : State} (h : execPeriodBoundary s = .next t) :
    onlyChanges [.now, .dch] s t := by
  refine live_onlyChanges h fun p hp => ?_
  simp only [atExpiry]
  all_goals cases p <;> simp_all [StatePart.same]

theorem execDeadTimeExpiry_onlyChanges (i : PairId) {s t : State} (h : execDeadTimeExpiry i s = .next t) :
    onlyChanges [.now, .dch] s t := by
  refine live_onlyChanges h fun p hp => ?_
  simp only [atExpiry]
  repeat' split
  all_goals cases p <;> simp_all [StatePart.same]

end Sys2Proof.Machine
end

