-- ==== Sys2Proof/Tests/Slice0.lean ====
section
/-! SUPPORT. The author's own tests: well-formedness, the figures the spec works out, and for each statement a state and
operands that meet its hypotheses. -/

namespace Sys2Proof.Machine

open Sys2Proof

-- One theorem after the other: each asks the kernel, and many waiting at once take too many threads.
set_option Elab.async false

/-! ### Well-formedness -/

/-- Peer records exist for 1..30 only, and a frame has at most 535 bits (R1, R174). -/
theorem test_well_formed_refuses :
    Instr.wellFormed (.staleDeadline 0) = false ∧ Instr.wellFormed (.staleDeadline 31) = false
      ∧ Instr.wellFormed (.lossDeadline 0) = false ∧ Instr.wellFormed (.lossDeadline 31) = false
      ∧ Instr.wellFormed (.frameReception (List.replicate 536 true)) = false := by decide +kernel

theorem test_well_formed_accepts :
    Instr.wellFormed (.staleDeadline 1) = true ∧ Instr.wellFormed (.lossDeadline 30) = true
      ∧ Instr.wellFormed (.frameReception (List.replicate 535 true)) = true ∧ Instr.wellFormed .trip = true := by decide +kernel

/-! ### Figures the spec works out -/

/-- Section 2.6.1. -/
theorem test_lever_figures :
    let c : LeverCal := ⟨400, 2100, 3800, 60⟩
    leverDemand c 2130 = 0 ∧ leverDemand c 3000 = 512 ∧ leverDemand c 1000 = -634 ∧ leverDemand c 3900 = 1000 := by
  decide

/-- The example convoy's P1 with a side and a rated power (00 section 6, section 3.4.1). -/
def demoP1 (side : Int) : P1 := ⟨6000, 2000, side, 250, ⟨100, 200⟩, ⟨50, 100⟩, 150, 600, 1800, 300, 700, 100, 10, 60, 5⟩

/-- Section 3.4.1, without a cap and under a cap of 3000 kW. -/
theorem test_share_figures :
    shareTarget (demoP1 (-1)) ⟨750, 400, 5400, none, 2000⟩ = 1832 ∧ shareTarget (demoP1 0) ⟨750, 400, 5400, none, 2000⟩ = 1666
      ∧ shareTarget (demoP1 1) ⟨750, 400, 5400, none, 1400⟩ = 1050
      ∧ shareTarget (demoP1 (-1)) ⟨750, 400, 5400, some 3000, 2000⟩ = 1222
      ∧ shareTarget (demoP1 0) ⟨750, 400, 5400, some 3000, 2000⟩ = 1111
      ∧ shareTarget (demoP1 1) ⟨750, 400, 5400, some 3000, 1400⟩ = 700 := by decide

/-- Section 3.4.1: the ramp and the governor duty. -/
theorem test_ramp_and_duty_figures :
    rampStep ⟨100, 200⟩ 1832 1500 = 1600 ∧ rampStep ⟨100, 200⟩ 1222 1600 = 1400 ∧ rampStep ⟨100, 200⟩ 1222 1400 = 1222
      ∧ governorDuty (demoP1 0) 1600 = 830 ∧ governorDuty (demoP1 0) 1222 = 669 := by decide

/-- The example convoy's P2 with a gain and a sign (section 4.2.1), its RUDDER calibrated as section 8.4.1 has it. -/
def demoP2 (gain : Nat) (sign : Int) : P2 :=
  ⟨350, gain, sign, 3600, 5, 4, 200, 900, 20, 3000, .holdPosition, 100, ⟨300, -400, 3900, 400⟩⟩

/-- Section 4.2.1. -/
theorem test_angle_figures :
    commandAngle (demoP2 1000 1) 400 (compensation (demoP2 1000 1) 3600) = 140
      ∧ commandAngle (demoP2 600 (-1)) 400 (compensation (demoP2 600 (-1)) 3600) = -84
      ∧ commandAngle (demoP2 1000 1) (-250) 1000 = -87 ∧ commandAngle (demoP2 600 (-1)) (-250) 1000 = 52
      ∧ compensation (demoP2 1000 1) 2600 = 1384 ∧ commandAngle (demoP2 1000 1) 400 1384 = 193
      ∧ commandAngle (demoP2 600 (-1)) 400 1384 = -116 := by decide

/-- Section 8.4.1. -/
theorem test_scaling_figures :
    let c := (demoP2 1000 1).rudder
    scale c 2100 = 0 ∧ scale c 2500 = 88 ∧ scale c 1000 = -245 ∧ scale c 3980 = 400 := by decide

/-- The example convoy's P4 (sections 6.2.1 and 6.3.1). -/
def demoP4 : P4 :=
  ⟨1000, 1000, 500, 2000, 2500, 40, 5, ⟨300, 0, 3900, 2000⟩, ⟨300, -50, 3900, 150⟩,
    [0, 900, 1900, 3000, 4100, 5200, 6300, 7400, 8500, 9500, 10400]⟩

/-- Section 6.3.1. -/
theorem test_sounding_figures :
    sounding demoP4 1234 = 6487 ∧ sounding demoP4 956 = 4958 ∧ sounding demoP4 380 = 1800
      ∧ sounding demoP4 2050 = 10400 := by decide

/-- Section 6.2.1: the two windows and the window at the limit. -/
theorem test_window_figures :
    let k := windowStep demoP4 ⟨0, 37, 12, 0⟩ (some 45) { keptCleared with resC := 4321 }
    let l := windowStep demoP4 ⟨0, 3, 8, 0⟩ none k
    let m := windowStep demoP4 ⟨0, 37, 12, 0⟩ (some 45) { keptCleared with accC := 549755800000, resC := 4321 }
    k.accC = 24400 ∧ k.resC = 4321 ∧ l.accC = 19401 ∧ l.resC = -5679 ∧ l.flags.tempDefaulted = true
      ∧ m.accC = 549755813887 ∧ m.flags.saturated = true ∧ consumedL m = 5497558 := by decide

/-- The check word of R205 over the ASCII digits 1 to 9 is 29B1H, the published check of this polynomial and start
value (PRESUMED: outside the spec). -/
theorem test_check_word :
    crcBits (bitsOfBytes [0x31, 0x32, 0x33, 0x34, 0x35, 0x36, 0x37, 0x38, 0x39]) = 0x29B1#16 := by decide +kernel

/-- A TRIP of station 7 with cause PARTED at winch A: class 0, sender 7, length 2, then the bytes 1 and 1 (R174, R205,
R207). -/
theorem test_trip_header :
    frameBody ⟨clsTrip, 7, [1, 1]⟩ =
      [false, false, false, false,  false, false, true, true, true,  false, false, false, false, true, false,
        false, false, false, false, false, false, false, true,  false, false, false, false, false, false, false, true] := by
  decide

/-! ### A station to try commands on -/

/-- P3 with the example convoy's thresholds (00 section 6, section 5.4.1). -/
def demoP3 : P3 := ⟨20, 150, 300, 600, 900, 50, 250, 300, 30, 400, 2, 300, 5, 100, ⟨300, 0, 3900, 1200⟩, ⟨300, 0, 3900, 1200⟩⟩

/-- P5 with the figures of section 2.6.1. -/
def demoP5 : P5 := ⟨⟨400, 2100, 3800, 60⟩, ⟨400, 2100, 3800, 60⟩, 50⟩

/-- A record in LIVE with every machinery, one cap of 3000 kW and an account at leg 20. -/
def demoPeer : PeerRecord :=
  ⟨.live, some ⟨⟨true, true, true, true, true⟩, .run, 5, 0, 0⟩, some 1500000, some 5000000, none,
    some ⟨2000, 500, .normal⟩, some ⟨40, 1000, true⟩, some ⟨.overload, 750, some 3000⟩, some ⟨.holding, 300, none⟩,
    some ⟨.inCommand, 17, none⟩, some ⟨false, 20, 5, 0, none, none, none, flagsNone⟩⟩

/-- Station 7 with every machinery, commissioned and in RUN; stations 2 LIVE, 3 HEARD, 4 STALE, 5 LOST; station 2 in
command at epoch 17 with D 500 and R 100; leg 20 open. -/
def demo : State :=
  let r := State.reset
  { r with
    now := 1000000
    sc :=
      ⟨.run, 7, ⟨true, true, true, true, true⟩, some (demoP1 (-1)), some (demoP2 1000 1), some demoP3, some demoP4,
        some demoP5, true, [], none, none, some 1200000⟩
    pt :=
      ((((ptReset.setIfInBounds 1 demoPeer).setIfInBounds 2 { demoPeer with state := .heard }).setIfInBounds 3
        { demoPeer with state := .stale }).setIfInBounds 4
          { demoPeer with state := .lost, staleAt := none, lossAt := none, winchA := some ⟨.overload, 750, none⟩ })
    hcu :=
      { r.hcu with
        holder := some 2, epoch := 17, helmLossTimer := some 1900000
        demand := ⟨500, 100, .opened, some 900000, true⟩ }
    tsu := { r.tsu with derate := 1000, aOwn := 2000, sp := 500, gear := .at .ahead, dutyReq := 362 }
    stu := { r.stu with state := .following, responsive := true, measured := some 40 }
    cu := ⟨{ r.cu.a with state := .holding, lastTension := 300 }, { r.cu.b with state := .slack, lastTension := 100 }⟩
    fau := { r.fau with kept := { r.fau.kept with leg := 20 }, accountTimer := some 2000000 }
    ssq := { r.ssq with scan := .waiting, controlTimer := some 1050000, heldClear := false }
    dch := { r.dch with gearReq := .ahead, faultReq := false, restHold := false, boundaryAt := 1001000 } }

/-- A state with one frame waiting. -/
def rx (f : Frame) (s : State) : State := { s with tbi := { s.tbi with rxQueue := [f] } }

/-- The state after a command. -/
def after (c : Instr) (s : State) : State :=
  match exec c s with
  | .next t => t
  | .fault _ => s
  | .refused _ => s

/-- `demo` with another station state. -/
def demoIn (st : StationState) : State := { demo with sc := { demo.sc with station := st } }

/-- `demo` with winch A in another state. -/
def winchIn (st : WinchState) : State := { demo with cu := { demo.cu with a := { demo.cu.a with state := st } } }

/-- `demo` with a sample set delivered: every channel GOOD, tension A as given, no input active. -/
def sampled (tension : Int) : State :=
  { demo with
    ssq :=
      { demo.ssq with
        sample :=
          some ⟨⟨.good, some 3000⟩, ⟨.good, some 2130⟩, ⟨.good, some 40⟩, ⟨.good, some tension⟩, ⟨.good, some 100⟩,
            ⟨.good, some 1234⟩, ⟨.good, some 45⟩, 1320, ⟨132, 37, 12, 0⟩, ⟨false, false, false, false⟩, false, false,
            false⟩ }
    due := ⟨true, true, true, true, true, true⟩ }

/-- Frames that admission admits at `demo`. -/
def fTrip : Frame := ⟨clsTrip, 2, [1, 1]⟩
def fCap : Frame := ⟨clsCap, 2, [1] ++ putU 2 2500 ++ putU 2 700⟩
def fRequest : Frame := ⟨clsCommand, 3, [1] ++ putU 2 17 ++ putS 2 480 ++ putS 2 (-10)⟩
def fGrant (g : Byte) : Frame := ⟨clsCommand, 2, [2, g] ++ putU 2 18⟩
def fDecline : Frame := ⟨clsCommand, 2, [3, 7, 2]⟩
def fSeize : Frame := ⟨clsCommand, 3, [4] ++ putU 2 18⟩
def fDemand : Frame := ⟨clsDemand, 2, putU 2 17 ++ putS 2 1200 ++ putS 2 (-40) ++ [1]⟩
def fConsole (p : List Byte) : Frame := ⟨clsCommand, 31, p⟩
def fCouple (action : Byte) : Frame := ⟨clsCouple, 31, [7, 1, action]⟩
def fStatus : Frame := ⟨clsStatus, 2, [2, 1, 5] ++ putU 4 0 ++ putU 2 1800 ++ putS 2 (-300) ++ [0]⟩
def fShort : Frame := ⟨clsStatus, 5, [0, 31, 3, 0, 0]⟩
def fLeg (n : Nat) : Frame := ⟨clsLeg, 31, putU 2 n⟩
def fAccount (n : Nat) : Frame :=
  ⟨clsAccount, 2, putAccount ⟨false, BitVec.ofNat 16 n, 7, 0, none, none, none, flagsNone⟩⟩
def fQuery (subject arg page : Byte) : Frame := ⟨clsQuery, 31, [7, subject, arg, page]⟩

/-- Every one of them is admitted (R184, R185). -/
theorem test_frames_admitted :
    ∀ f ∈ [fTrip, fCap, fRequest, fGrant 7, fGrant 3, fGrant 0, fDecline, fSeize, fDemand, fConsole [5, 7],
        fConsole [6, 255, 0, 0, 0, 4], fConsole [7, 7], fCouple 1, fCouple 2, fStatus, fShort, fLeg 21, fAccount 21,
        fQuery 1 0 0, fQuery 2 0 0, fQuery 3 2 1, fQuery 4 0 0, fQuery 5 0 0, fQuery 6 0 0],
      judge (rx f demo) f = .admitted ∧ (rx f demo).tbi.rxQueue.head? = some f := by decide +kernel

/-! ### Steps, resets and supply -/

theorem test_witness_StepRunsFrontCommand :
    let s := { demo with pending := [.periodBoundary, .trip] }
    s.pending = .periodBoundary :: [.trip] ∧ step s = exec .periodBoundary { s with pending := [.trip] } := ⟨rfl, rfl⟩

theorem test_witness_EveryCommandCompletes :
    demo.pending = [] ∧ (after .lineIdle { demo with powered := false }).tbi = demo.tbi
      ∧ ({ demo with powered := false } : State).powered = false := by decide +kernel

/-- Another check word than the one of the contents. -/
def tornDemo : State := { demo with fau := { demo.fau with check := retentionCrc demo.fau.kept + 1 } }

theorem tornDemo_mismatch : tornDemo.fau.check ≠ retentionCrc tornDemo.fau.kept := by
  have h : ∀ x : BitVec 16, x + 1 ≠ x := by intro x; bv_omega
  exact h _

/-- Both retention clauses, and a line reset's two ways with the number at its ends (R194, R201). -/
theorem test_witness_resets :
    State.reset.fau.check = retentionCrc State.reset.fau.kept ∧ tornDemo.fau.check ≠ retentionCrc tornDemo.fau.kept
      ∧ (demo.powered = true ∧ demo.sc.lock = true ∧ validStation 1 = true ∧ validStation 30 = true
          ∧ recordComplete demo.sc.fitted demo.sc)
      ∧ validStation 0 = false ∧ validStation 31 = false :=
  ⟨rfl, tornDemo_mismatch, by unfold recordComplete; decide, by decide⟩

theorem test_line_reset_joins :
    (after (.lineReset 30 demo.sc.fitted) demo).sc.station = .joining
      ∧ (after (.lineReset 30 demo.sc.fitted) demo).sc.joinTimer = some 2500000
      ∧ (after (.lineReset 31 demo.sc.fitted) demo).sc.station = .listen
      ∧ (after (.powerOnReset 30 demo.sc.fitted) demo).sc.reportTimer = some 930000 := by decide +kernel

/-- The record, the scan and the other parts after the reset that joins at once, a conversion running or none (R150, R151,
R192, R197). -/
theorem test_line_reset_joins_whole :
    let joined (x : ScanState) := after (.lineReset 7 demo.sc.fitted) { demo with ssq := { demo.ssq with scan := x } }
    let t := joined (.busy .rudder)
    statusQueued tbiAtReset t 1000000 ∧ t.ssq.scan = .interrupted ∧ (joined .stopped).ssq.scan = .waiting
      ∧ t.ssq.heldClear = true ∧ t.ssq.pulses = ⟨0, 0, 0, 0⟩ ∧ t.ssq.sample = none
      ∧ (∀ c : Channel, channelOf t.ssq.channels c = ⟨.noData, none, none, 0, 0⟩)
      ∧ t.powered = demo.powered ∧ t.freeSeq = demo.freeSeq := by
  refine ⟨?_, ?_⟩
  · unfold statusQueued; decide +kernel
  · refine ⟨?_, ?_, ?_, ?_, ?_, ?_, ?_, ?_⟩ <;> first | decide +kernel | (intro c; cases c <;> decide +kernel)

theorem test_witness_SupplyFailure :
    losesRetention demo false true = false ∧ losesRetention demo true true = true
      ∧ outFault (after (.supplyFailure false true) demo) = true := by decide +kernel

/-! ### The line and admission -/

theorem test_witness_LineCodeRoundTrip :
    fTrip.payload.length ≤ 63 ∧ lineCheck (frameBits fTrip) = .passes fTrip
      ∧ lineCheck (frameBits ⟨clsTrip, 7, [1]⟩) = .lengthError ∧ lineCheck ((frameBits fTrip).take 46) = .crcError := by
  decide +kernel

/-- Three waiting frames leave room for a fourth, and four for none (R183). -/
theorem test_witness_FrameReception :
    let full (n : Nat) : State := { demo with tbi := { demo.tbi with rxQueue := List.replicate n fTrip } }
    (after (.frameReception (frameBits fTrip)) (full 3)).tbi.rxQueue.length = 4
      ∧ (after (.frameReception (frameBits fTrip)) (full 4)).tbi.counters.rxOverrun = 1
      ∧ (after (.frameReception []) demo).tbi.counters.crcError = 1 := by decide +kernel

/-- `demo` with a STATUS and, queued later, a TRIP pending. -/
def pendingTwo : State :=
  let t : Slots :=
    { slotsEmpty with status := some ⟨⟨clsStatus, 7, []⟩, 0, 1200000⟩, trip := some ⟨⟨clsTrip, 7, [2, 0]⟩, 1, 2000000⟩ }
  { demo with tbi := { demo.tbi with slots := t } }

theorem test_witness_LineIdleStartsTheBest :
    pendingTwo.tbi.line = .active ∧ validStation pendingTwo.sc.number = true ∧ pendingTwo.tbi.inflight = none
      ∧ ((after .lineIdle pendingTwo).tbi.inflight.map (·.slot)) = some .trip
      ∧ (after .lineIdle pendingTwo).tbi.slots.trip = none ∧ (after .lineIdle demo).tbi = demo.tbi := by
  decide +kernel

/-- A frame in flight with what it has met, and 7 aborts before it (R179 to R181). -/
def flyingWith (fate : Fate) : State :=
  { demo with tbi := { demo.tbi with aborts := 7, inflight := some ⟨.demand, ⟨⟨clsDemand, 7, []⟩, 0, 1100000⟩, fate, false⟩ } }

theorem test_witness_AttemptEnds :
    (after .transmissionComplete (flyingWith .keep)).tbi.aborts = 0
      ∧ (after .arbitrationLoss (flyingWith .keep)).tbi.slots.demand.isSome = true
      ∧ (after .arbitrationLoss (flyingWith .coalesced)).tbi.counters.coalesced = 1
      ∧ (after .arbitrationLoss (flyingWith .dropped)).tbi.counters.lifetimeDrop = 1
      ∧ (after .arbitrationLoss (flyingWith .withdrawn)).tbi.slots.demand = none
      ∧ (after .readbackError (flyingWith .keep)).tbi.line = .mute
      ∧ (after .readbackError (flyingWith .keep)).tbi.muteTimer = some 2000000 := by decide +kernel

theorem test_witness_QueuedFrame :
    TxSlot.trip ≠ .reply ∧ (queueTbi .trip fTrip 5 pendingTwo.tbi).counters.coalesced = 1
      ∧ (queueTbi .demand fDemand 5 (flyingWith .keep).tbi).inflight.map (·.fate) = some .coalesced := by decide +kernel

/-- A DEMAND withdrawn leaves its slot empty and is marked in flight; no counter moves (R33, R179). -/
theorem test_withdrawn_demand :
    let x := queueTbi .demand fDemand 5 (flyingWith .keep).tbi
    x.slots.demand.isSome = true ∧ (withdrawDemand x).slots.demand = none ∧ (withdrawDemand x).counters = x.counters
      ∧ (withdrawDemand (flyingWith .keep).tbi).inflight.map (·.fate) = some .withdrawn := by decide +kernel

/-- The expiries at the line (R178, R179, R181): a frame pending alone, beside another slot's in flight, and beside its own
slot's in flight that ends later and earlier; a reply waiting, waiting behind one in flight, and in flight. -/
theorem test_witness_LineTimers :
    let both (pendingEnd : Nat) : State :=
      let s := flyingWith .coalesced
      { s with tbi := { s.tbi with slots := { s.tbi.slots with demand := some ⟨⟨clsDemand, 7, [1]⟩, 1, pendingEnd⟩ } } }
    let beside : State := { flyingWith .keep with tbi := { pendingTwo.tbi with inflight := (flyingWith .keep).tbi.inflight } }
    let r (n : Nat) : TxFrame := ⟨⟨clsReply, 7, []⟩, n, 1500000 + n⟩
    let answering (late : Bool) : State :=
      { demo with tbi := { demo.tbi with replies := [r 0, r 1], inflight := some ⟨.reply, r 0, .keep, late⟩ } }
    (after (.frameLifetimeExpiry .status) beside).tbi.slots.status = none
      ∧ (after (.frameLifetimeExpiry .status) beside).tbi.inflight.isSome = true
      ∧ (after (.frameLifetimeExpiry .demand) (both 1099999)).tbi.slots.demand = none
      ∧ (after (.frameLifetimeExpiry .demand) (both 1099999)).tbi.counters.lifetimeDrop = 1
      ∧ (after (.frameLifetimeExpiry .demand) (both 1100000)).tbi.slots.demand.isSome = true
      ∧ (after (.frameLifetimeExpiry .demand) (both 1100000)).tbi.inflight.map (·.lifeOver) = some true
      ∧ (after (.frameLifetimeExpiry .reply) (answering true)).tbi.replies = [r 0]
      ∧ (after (.frameLifetimeExpiry .reply) (answering false)).tbi.inflight.map (·.fate) = some .dropped := by
  decide +kernel

theorem test_witness_LineTimers_alone :
    let muted : State := { demo with tbi := { demo.tbi with line := .mute, aborts := 8, muteTimer := some 2000000 } }
    let replying : State := { demo with tbi := { demo.tbi with replies := [⟨⟨clsReply, 7, []⟩, 0, 1500000⟩] } }
    slotOf pendingTwo.tbi.slots .status = some ⟨⟨clsStatus, 7, []⟩, 0, 1200000⟩ ∧ pendingTwo.tbi.inflight = none
      ∧ (after (.frameLifetimeExpiry .status) pendingTwo).tbi.counters.lifetimeDrop = 1
      ∧ (after (.frameLifetimeExpiry .reply) replying).tbi.replies = []
      ∧ (after (.frameLifetimeExpiry .demand) (flyingWith .keep)).tbi.inflight.map (·.fate) = some .dropped
      ∧ (after .muteTimerExpiry muted).tbi.line = .active ∧ (after .muteTimerExpiry muted).tbi.aborts = 0 := by
  decide +kernel

/-- A frame of each rank, the sender at both ends of its row's range (R185). -/
theorem test_witness_AdmissionTable :
    (∀ f ∈ [fTrip, fCap, fSeize, fDemand, fCouple 1, fStatus, fLeg 21, fAccount 21, ⟨clsCommission, 31, [1, 1]⟩,
        fQuery 1 0 0, ⟨clsReply, 2, []⟩, ⟨15, 2, []⟩],
      ¬ (validStation demo.sc.number = true ∧ f.sender = demo.sc.number))
      ∧ judge demo ⟨clsTrip, 1, [1, 0]⟩ = .admitted ∧ judge demo ⟨clsTrip, 30, [1, 0]⟩ = .admitted
      ∧ judge demo ⟨clsTrip, 0, [1, 0]⟩ = .refused .sender ∧ judge demo ⟨clsTrip, 31, [1, 0]⟩ = .refused .sender
      ∧ judge (demoIn .safe) fTrip = .ignored ∧ judge demo ⟨clsCap, 5, [1]⟩ = .refused .notWinch
      ∧ judge demo ⟨clsCap, 2, [3]⟩ = .refused .field ∧ judge demo ⟨clsCommand, 2, [9]⟩ = .refused .field
      ∧ judge (demoIn .hold) (fConsole [7, 7]) = .refused .state
      ∧ judge demo ⟨clsCommission, 31, [1, 1]⟩ = .refused .locked ∧ judge demo ⟨10, 2, []⟩ = .defaultPath := by
  decide +kernel

theorem test_witness_FramesNotAdmitted :
    let bad : Frame := ⟨clsTrip, 31, [1, 0]⟩
    (after .trip (rx bad demo)).tbi.lastRefusal = some ⟨0, 31, .sender⟩
      ∧ (after .trip (rx fTrip (demoIn .safe))).tbi.counters.ignored = 1
      ∧ (after .reply (rx ⟨10, 2, []⟩ demo)).tbi.counters.defaultRouted = 1
      ∧ (after .unknownClass (rx ⟨15, 2, []⟩ demo)).tbi.counters.defaultRouted = 1 := by decide +kernel

/-- The own number: SAFE in RUN, ignored in LISTEN and for a STATUS that reports LISTEN (R182). -/
theorem test_witness_DuplicateStation :
    let own : Frame := ⟨clsTrip, 7, [1, 0]⟩
    frameFor .trip own = true ∧ validStation demo.sc.number = true ∧ own.sender = demo.sc.number
      ∧ (after .trip (rx own demo)).sc.station = .safe ∧ (after .trip (rx own demo)).tbi.line = .silenced
      ∧ (after .trip (rx own demo)).tsu.gear = .at .neutral ∧ outFault (after .trip (rx own demo)) = true
      ∧ (after .trip (rx own (flyingWith .keep))).tbi.slots.demand = some ⟨⟨clsDemand, 7, []⟩, 0, 1100000⟩
      ∧ (after .trip (rx own (flyingWith .coalesced))).tbi.slots.demand = none
      ∧ (after .trip (rx own (demoIn .listen))).sc.station = .listen
      ∧ (after .status (rx ⟨clsStatus, 7, [0, 0, 0, 0, 0]⟩ demo)).sc.station = .run := by decide +kernel

/-! ### Peers -/

/-- A full STATUS in LIVE, and a short one from a LOST record, whose account goes (R4, R5, R10). -/
theorem test_witness_StatusUpdatesTheSender :
    let high : Frame := ⟨clsStatus, 2, [2, 1, 11] ++ putU 4 0 ++ putU 2 8001 ++ putS 2 (-8001) ++ [0]⟩
    let t := after .status (rx fStatus demo)
    let u := after .status (rx fShort demo)
    admits (rx fStatus demo) fStatus ∧ fStatus.cls = clsStatus
      ∧ (peer t 2).state = .live ∧ (peer t 2).engine = some ⟨1800, -300, .normal⟩ ∧ (peer t 2).helm = none
      ∧ (peer (after .status (rx high demo)) 2).engine = some ⟨8000, -8000, .normal⟩
      ∧ ((peer (after .status (rx high demo)) 2).core.map (·.period)) = some 10
      ∧ (peer t 2).staleAt = some 2500000 ∧ (peer u 5).state = .heard ∧ (peer u 5).account = none
      ∧ (peer u 5).lossAt = some 11000000 ∧ (peer u 5).winchA = some ⟨.standby, 0, none⟩ := by
  refine ⟨?_, ?_⟩
  · unfold admits; decide +kernel
  · decide +kernel

/-- A cap above N is clamped to it; the other winch keeps its part (R12, R186). -/
theorem test_witness_CapUpdatesTheWinch :
    let high : Frame := ⟨clsCap, 2, [1] ++ putU 2 6001 ++ putU 2 4001⟩
    admits (rx high demo) high ∧ winchOf (getU 1 0 high.payload) = some .a
      ∧ (peer (after .cap (rx high demo)) 2).winchA = some ⟨.overload, 4000, some 6000⟩
      ∧ (peer (after .cap (rx fCap demo)) 2).winchB = demoPeer.winchB := by
  refine ⟨?_, ?_⟩
  · unfold admits; decide +kernel
  · decide +kernel

/-- The next leg from a LIVE record is stored and adopted, the open leg is stored only, an earlier one is not stored
(R14, R125). -/
theorem test_witness_AccountStoredAndAdopted :
    demo.fau.kept.closed.length ≤ 4
      ∧ (after .account (rx (fAccount 21) demo)).fau.kept.leg = 21
      ∧ (after .account (rx (fAccount 20) demo)).fau.kept.leg = 20
      ∧ ((peer (after .account (rx (fAccount 20) demo)) 2).account.map (·.consumed)) = some 7
      ∧ ((peer (after .account (rx (fAccount 19) demo)) 2).account.map (·.consumed)) = some 5 := by decide +kernel

theorem test_witness_PeerDeadlines :
    (peer demo 3).state = .heard ∧ (peer demo 3).staleAt = some 1500000 ∧ (peer demo 4).state = .stale
      ∧ (peer demo 4).lossAt = some 5000000
      ∧ (peer (after (.staleDeadline 3) demo) 3).state = .stale
      ∧ (peer (after (.lossDeadline 4) demo) 4).state = .lost
      ∧ (peer (after (.lossDeadline 4) demo) 4).winchA = some ⟨.overload, 750, none⟩ := by decide +kernel

/-- LIVE and STALE records count in ΣA, the caps of HEARD, LIVE and STALE in the cap set (R15, R16). -/
theorem test_witness_ConvoyView :
    isHeard (peer demo 3) = true ∧ (peer demo 31) = recordAbsent ∧ sumPower demo = 4000 ∧ sumGain demo = 2000 ∧ capSet demo = [3000, 3000, 3000] ∧ lowestCap demo = some 3000 := by
  decide +kernel

/-! ### Helm -/

/-- `demo` with another helm state; IN_COMMAND with the own number recorded. -/
def helmIn (st : HelmState) : State :=
  { demo with
    hcu :=
      { demo.hcu with
        helm := st, holder := some (if st = .inCommand then 7 else 2), dOwn := 512, rOwn := -40
        requestTimer := some 1500000, demandTimer := some 1100000, lastQueued := some ⟨512, -40, .confined⟩ } }

/-- A claim adopted, confirmed, or below the record: the next epoch, the recorded pair, the recorded epoch from a higher
number; an equal epoch from a lower number; and any claim with no holder (R22). -/
theorem test_witness_claims :
    claimAdopted demo.hcu 18 3 ∧ claimConfirms demo.hcu 17 2 ∧ claimAdopted demo.hcu 17 1 ∧ claimAdopted hcuReset 0 30
      ∧ (judgeClaim demo.hcu 17 3 = .lower ∧ ¬ claimAdopted demo.hcu 17 3 ∧ ¬ claimConfirms demo.hcu 17 3) := by
  refine ⟨Or.inr ⟨2, rfl, Or.inl (by decide)⟩, ⟨rfl, rfl⟩, Or.inr ⟨2, rfl, Or.inr ⟨rfl, by decide⟩⟩, Or.inl rfl, by decide, ?_,
    fun h => absurd h.1 (by decide)⟩
  rintro (h | ⟨y, h, h'⟩)
  · exact absurd h (by decide)
  · have hy : y = 2 := (Option.some.inj h).symm
    subst hy
    revert h'
    decide

theorem test_witness_SeizeFrame :
    admits (rx fSeize demo) fSeize ∧ fSeize.cls = clsCommand ∧ fSeize.byte0 = 4
      ∧ (after .commandSeize (rx fSeize demo)).hcu.holder = some 3
      ∧ (after .commandSeize (rx fSeize (helmIn .inCommand))).hcu.helm = .standby
      ∧ (after .commandSeize (rx fSeize (helmIn .requesting))).hcu.requestTimer = none := by
  refine ⟨?_, ?_⟩
  · unfold admits; decide +kernel
  · decide +kernel

/-- A GRANT to this station in each helm state, to others at both ends of 1..30, and outside it (R23, R31, R34). -/
theorem test_witness_GrantFrame :
    let own : Frame := ⟨clsCommand, 2, [2, 7] ++ putU 2 17⟩
    admits (rx (fGrant 7) demo) (fGrant 7) ∧ (fGrant 7).byte0 = 2
      ∧ (after .commandGrant (rx (fGrant 7) (helmIn .requesting))).hcu.helm = .inCommand
      ∧ (after .commandGrant (rx (fGrant 7) (helmIn .requesting))).tbi.slots.demand.map (·.frame.payload) =
          some (putU 2 18 ++ putS 2 512 ++ putS 2 (-40) ++ [2])
      ∧ (after .commandGrant (rx (fGrant 7) (helmIn .standby))).hcu.vacant = true
      ∧ (after .commandGrant (rx (fGrant 7) (helmIn .inCommand))).tbi.counters.staleCommand = 0
      ∧ (after .commandGrant (rx own (helmIn .inCommand))).tbi.counters.staleCommand = 1
      ∧ (after .commandGrant (rx own (helmIn .inCommand))).hcu.helm = .inCommand
      ∧ (after .commandGrant (rx (fGrant 30) demo)).hcu.holder = some 30
      ∧ (after .commandGrant (rx (fGrant 1) demo)).hcu.holder = some 1
      ∧ (after .commandGrant (rx (fGrant 0) demo)).tbi.counters.staleCommand = 1
      ∧ (after .commandGrant (rx (fGrant 31) demo)).tbi.counters.staleCommand = 1 := by
  refine ⟨?_, ?_⟩
  · unfold admits; decide +kernel
  · decide +kernel

/-- A confirmed DEMAND is clamped and accepted; one below the record only counts (R38). -/
theorem test_witness_DemandFrame :
    let low : Frame := ⟨clsDemand, 3, putU 2 17 ++ putS 2 1 ++ putS 2 1 ++ [1]⟩
    admits (rx fDemand demo) fDemand ∧ fDemand.cls = clsDemand
      ∧ (after .demand (rx fDemand demo)).hcu.demand = ⟨1000, -40, .opened, some 1000000, true⟩
      ∧ (after .demand (rx low demo)).hcu = demo.hcu ∧ (after .demand (rx low demo)).tbi.counters.staleCommand = 1 := by
  refine ⟨?_, ?_⟩
  · unfold admits; decide +kernel
  · decide +kernel

/-- Section 2.6.2: the levers at +512 and −40 match a REQUEST at +480 and −10; an older epoch and levers 51 away do
not (R32). -/
theorem test_witness_RequestAndDecline :
    let request (e : Nat) (d : Int) : Frame := ⟨clsCommand, 3, [1] ++ putU 2 e ++ putS 2 d ++ putS 2 (-10)⟩
    let answer (f : Frame) := (after .commandRequest (rx f (helmIn .inCommand))).tbi.slots.command.map (·.frame.payload)
    admits (rx fRequest (helmIn .inCommand)) fRequest ∧ fRequest.byte0 = 1
      ∧ answer (request 17 480) = some ([2, 3] ++ putU 2 18) ∧ answer (request 17 461) = some [3, 3, 2]
      ∧ answer (request 16 480) = some [3, 3, 1] ∧ answer (request 17 462) = some ([2, 3] ++ putU 2 18)
      ∧ (after .commandRequest (rx fRequest demo)).tbi.slots.command = none
      ∧ (after .commandDecline (rx fDecline (helmIn .requesting))).hcu.lastDecline = some .mismatch
      ∧ (after .commandDecline (rx fDecline (helmIn .requesting))).hcu.helm = .standby := by
  refine ⟨?_, ?_⟩
  · unfold admits; decide +kernel
  · decide +kernel

/-- A lever whose edges are in order with the least room, at them and beside them (R26). -/
theorem test_witness_LeverMapping :
    let c : LeverCal := ⟨400, 2100, 3800, 60⟩
    leverOrdered c = true ∧ leverDemand c 2040 = 0 ∧ leverDemand c 2160 = 0 ∧ leverDemand c 2162 = 1
      ∧ leverDemand c 2038 = -1 ∧ leverOrdered ⟨400, 401, 402, 0⟩ = true := by decide +kernel

/-- `sampled` with the inputs seen before and now, and a helm state. -/
def edges (st : HelmState) (take seize : Bool) : State :=
  let s := sampled 300
  let low : Debounce := ⟨some false, some false⟩
  let before (b : Bool) : Debounce := if b then ⟨some false, some true⟩ else low
  { s with
    hcu := { (helmIn st).hcu with take := before take, seize := before seize, modeSel := low }
    ssq := { s.ssq with sample := s.ssq.sample.map fun m => { m with pins := ⟨take, seize, false, false⟩ } } }

/-- TAKE in STANDBY requests, SEIZE seizes, both seize in either order; a lever moved by 20 or more queues a DEMAND in
command (R29, R30, R36). -/
theorem test_witness_HelmScan :
    (edges .standby true false).due.hcu = true
      ∧ (after .hcuScanCompletion (edges .standby true false)).hcu.helm = .requesting
      ∧ (after .hcuScanCompletion (edges .standby true false)).tbi.slots.command.map (·.frame.payload) =
          some ([1] ++ putU 2 17 ++ putS 2 512 ++ putS 2 0)
      ∧ (after .hcuScanCompletion (edges .standby false true)).hcu.epoch = 18
      ∧ (after .hcuScanCompletion (edges .standby false true)).hcu.holder = some 7
      ∧ (after .hcuScanCompletion (edges .requesting true false)).hcu.helm = .requesting
      ∧ (after .hcuScanCompletion (edges .inCommand false false)).tbi.slots.demand.map (·.frame.payload) =
          some (putU 2 17 ++ putS 2 512 ++ putS 2 0 ++ [1])
      ∧ (after .hcuScanCompletion (edges .standby false false)).hcu.dOwn = 512 := by decide +kernel

/-- D, R and mode as used, and the mode a DEMAND carries (R25, R37). -/
theorem test_values_used :
    used demo = ⟨500, 100, .opened⟩ ∧ (after .helmLossTimerExpiry demo).hcu.demand.valid = false
      ∧ modeNow hcuReset = .confined ∧ modeNow { hcuReset with modeSel := ⟨some true, some true⟩ } = .confined
      ∧ modeNow { hcuReset with modeSel := ⟨some false, some false⟩ } = .opened := by decide +kernel

theorem test_witness_HelmTimers :
    (helmIn .requesting).hcu.requestTimer = some 1500000 ∧ (helmIn .inCommand).hcu.demandTimer = some 1100000
      ∧ demo.hcu.helmLossTimer = some 1900000
      ∧ (after .requestTimerExpiry (helmIn .requesting)).hcu.helm = .standby
      ∧ (after .demandTimerExpiry (helmIn .inCommand)).hcu.demandTimer = some 1200000
      ∧ (after .helmLossTimerExpiry demo).hcu.helmLost = true
      ∧ used (after .helmLossTimerExpiry demo) = ⟨0, 0, .confined⟩ := by decide +kernel

/-! ### Thrust -/

theorem test_witness_both_edges :
    let s := edges .standby true true
    s.powered = true ∧ s.due.hcu = true ∧ s.sc.station = .run ∧ s.hcu.helm ≠ .inCommand
      ∧ ∀ m, s.ssq.sample = some m →
          (helmSampled s m).leverFault = false ∧ risingEdge m.pins.take s.hcu.take ∧ risingEdge m.pins.seize s.hcu.seize := by
  refine ⟨rfl, rfl, rfl, by decide, ?_⟩
  intro m h
  cases h
  exact ⟨by unfold helmSampled; decide, ⟨by decide, by decide⟩, ⟨by decide, by decide⟩⟩

/-- `sampled` with a gear state, a set-point, a demand and an engine speed. -/
def running (g : GearState) (sp d : Int) (rpm : Nat) : State :=
  let s := sampled 300
  { s with
    tsu := { s.tsu with gear := g, sp := sp, shiftTimer := some 11000000 }
    hcu := { s.hcu with demand := { s.hcu.demand with d := d, r := 0 } }
    ssq := { s.ssq with sample := s.ssq.sample.map fun m => { m with rpm := rpm } } }

/-- `running` under the trip latch. -/
def trippedRun (g : GearState) (sp : Int) : State :=
  let s := running g sp 500 1320
  { s with tau := { s.tau with latch := true } }

/-- TSU after its scan completion. -/
def tsuOf (s : State) : Tsu := (after .tsuScanCompletion s).tsu

/-- Each gear rule in RUN (R55 to R57, R63): the engine speed at shift_rpm 700 and one above it. -/
theorem test_witness_ThrustScanInRun :
    tsuOf (running (.at .ahead) 500 500 1320) =
        { (sampled 300).tsu with target := 1000, sp := 600, dutyReq := 405, shiftTimer := some 11000000 }
      ∧ (tsuOf (running (.at .neutral) 0 500 700)).gear = .shifting .engage .neutral .ahead
      ∧ (tsuOf (running (.at .neutral) 0 500 701)).gear = .shifting .rundown .neutral .ahead
      ∧ (tsuOf (running (.at .ahead) 200 (-500) 700)).gear = .shifting .dwell .ahead .astern
      ∧ (tsuOf (running (.at .ahead) 201 (-500) 700)).gear = .shifting .rundown .ahead .astern
      ∧ (tsuOf (running (.shifting .rundown .ahead .astern) 100 500 700)).gear = .at .ahead
      ∧ (tsuOf (running (.shifting .rundown .ahead .astern) 100 (-500) 700)).shiftTimer = some 2500000
      ∧ (tsuOf (running (.shifting .rundown .neutral .ahead) 0 0 701)).gear = .at .neutral
      ∧ (tsuOf (running (.shifting .rundown .neutral .ahead) 0 500 700)).shiftTimer = some 2000000
      ∧ (tsuOf (running (.shifting .dwell .ahead .astern) 0 500 700)).gear = .shifting .dwell .ahead .ahead
      ∧ (tsuOf (running (.shifting .engage .ahead .astern) 0 500 700)).sp = 0
      ∧ (tsuOf (trippedRun (.shifting .rundown .ahead .astern) 100)).gear = .at .ahead := by decide +kernel

/-- HOLD steps to 0, JOINING rests at idle_duty, SAFE does nothing (R64 to R66). -/
theorem test_witness_ThrustScanElsewhere :
    let at' (st : StationState) : State := { running (.at .ahead) 120 500 1320 with sc := { demo.sc with station := st } }
    (at' .hold).due.tsu = true ∧ (tsuOf (at' .hold)).sp = 20 ∧ (tsuOf (at' .joining)).dutyReq = 150
      ∧ (tsuOf (at' .joining)).gear = .at .neutral ∧ (tsuOf (at' .safe)).sp = 120
      ∧ (tsuOf { trippedRun (.at .ahead) 120 with sc := { demo.sc with station := .hold } }).sp = 0 := by decide +kernel

/-- The duty is idle_duty whenever the set-point is 0, whatever the rating (R53, R62, R63). -/
theorem test_duty_at_rest :
    governorDuty { demoP1 0 with ratedKw := 0 } 0 = (demoP1 0).idleDuty ∧ governorDuty (demoP1 0) 0 = (demoP1 0).idleDuty
      ∧ (tsuOf { running (.at .ahead) 0 0 600 with
          sc := { demo.sc with p1 := some { demoP1 0 with ratedKw := 0 } } }).dutyReq = (demoP1 0).idleDuty := by
  decide +kernel

/-- A shift in flight in HOLD (R65): shift speed reached with sp 0, sp one short of it, and the other phases. -/
theorem test_shift_in_HOLD :
    let held (g : GearState) (sp : Int) (rpm : Nat) : Tsu :=
      tsuOf { running g sp 500 rpm with sc := { demo.sc with station := .hold } }
    (held (.shifting .rundown .ahead .astern) 100 700).gear = .shifting .dwell .ahead .neutral
      ∧ (held (.shifting .rundown .ahead .astern) 100 700).shiftTimer = some 2500000
      ∧ (held (.shifting .rundown .ahead .astern) 101 700).gear = .shifting .rundown .ahead .neutral
      ∧ (held (.shifting .rundown .ahead .astern) 100 701).shiftTimer = some 11000000
      ∧ (held (.shifting .rundown .neutral .ahead) 0 700).gear = .at .neutral
      ∧ (held (.shifting .dwell .ahead .astern) 0 700).gear = .shifting .dwell .ahead .neutral
      ∧ (held (.shifting .engage .ahead .astern) 0 700).gear = .shifting .engage .ahead .astern := by decide +kernel

theorem test_witness_ShareAndRamp :
    (demoP1 (-1)).side.natAbs ≤ 1 ∧ (demoP1 (-1)).assist ≤ 500 ∧ (1000 : Int).natAbs ≤ 1000
      ∧ turnAssist (demoP1 (-1)) ⟨1000, 1000, 2000, none, 2000⟩ = 500
      ∧ effectiveDemand (demoP1 0) ⟨1000, 0, 0, none, 0⟩ = 0 ∧ rampStep ⟨100, 200⟩ (-50) 150 = 0
      ∧ rampStep ⟨100, 200⟩ 0 201 = 1 := by decide +kernel

/-- The last count before a change and the one that makes it (R61, R62): lag_time 10, 20 scans for a stall. -/
theorem test_witness_EngineCondition :
    let x : Tsu := { tsuReset with gear := .at .ahead, sp := 1000 }
    let c := demoP1 0
    (condStep c 299 { x with stall := 18 }).cond = .normal ∧ (condStep c 299 { x with stall := 19 }).cond = .fault
      ∧ (condStep c 300 { x with stall := 19 }).stall = 0
      ∧ (condStep c 1099 { x with lag := 98 }).cond = .normal ∧ (condStep c 1099 { x with lag := 99 }).cond = .lagging
      ∧ (condStep c 1100 { x with lag := 99 }).lag = 0
      ∧ (condStep c 1100 { x with cond := .lagging, inBand := 99 }).cond = .normal
      ∧ (condStep c 1099 { x with cond := .lagging, inBand := 99 }).inBand = 0
      ∧ (condStep c 600 { x with cond := .fault, recovery := 19 }).cond = .normal
      ∧ (condStep c 599 { x with cond := .fault, recovery := 19 }).recovery = 0 := by decide +kernel

theorem test_witness_ShiftTimers :
    let shifting (p : ShiftPhase) : State := running (.shifting p .ahead .astern) 0 (-500) 700
    let held := { shifting .dwell with sc := { demo.sc with station := .hold } }
    (shifting .rundown).tsu.shiftTimer = some 11000000
      ∧ (after .rundownTimeout (shifting .rundown)).tau.latched.gearFault = true
      ∧ (after .rundownTimeout (shifting .rundown)).tsu.gear = .at .ahead
      ∧ (after .dwellExpiry (shifting .dwell)).tsu.gear = .shifting .engage .ahead .astern
      ∧ (after .dwellExpiry (shifting .dwell)).tsu.shiftTimer = some 12000000
      ∧ (after .dwellExpiry held).tsu.gear = .at .neutral
      ∧ (after .settleExpiry (shifting .engage)).dch.gearReq = .astern := by decide +kernel

/-! ### Steering -/

/-- A sample set with a RUDDER reading, a rudder state and a station state. -/
def steering (r : Reading) (st : RudderState) (station : StationState) : State :=
  let s := sampled 300
  { s with
    sc := { s.sc with station := station }
    stu := { s.stu with state := st, jam := some ⟨0, .stbd, 4000000⟩ }
    ssq := { s.ssq with sample := s.ssq.sample.map fun m => { m with rudder := r } } }

/-- STU after its scan completion. -/
def stuOf (s : State) : Stu := (after .stuScanCompletion s).stu

/-- R as used is 100, so the command angle is 42 with compensation 1200: the duty law outside the deadband of 5, nothing
within it, and the jam watch outside 20 (R71 to R76). -/
theorem test_witness_RudderFollows :
    (steering ⟨.good, some 40⟩ .following .run).due.stu = true ∧ givenBy ⟨.suspect, some 40⟩ = some 40
      ∧ (stuOf (steering ⟨.good, some 36⟩ .following .run)).reqStbd = 224
      ∧ (stuOf (steering ⟨.good, some 37⟩ .following .run)).reqStbd = 0
      ∧ (stuOf (steering ⟨.good, some 48⟩ .following .run)).reqPort = 224
      ∧ (stuOf (steering ⟨.good, some 22⟩ .following .run)).jam = none
      ∧ (stuOf (steering ⟨.good, some 4⟩ .following .run)).jam = some ⟨0, .stbd, 4000000⟩
      ∧ (stuOf (steering ⟨.good, some 5⟩ .following .run)).jam = some ⟨5, .stbd, 4000000⟩
      ∧ (stuOf (steering ⟨.good, some 80⟩ .following .run)).jam = some ⟨80, .port, 4000000⟩
      ∧ (stuOf (steering ⟨.good, some 6⟩ .following .hold)).reqPort = 224
      ∧ (stuOf (steering ⟨.good, some 5⟩ .following .hold)).state = .resting
      ∧ (stuOf (steering ⟨.good, some (-6)⟩ .following .hold)).state = .following := by decide +kernel

theorem test_witness_RudderOtherStates :
    (stuOf (steering ⟨.fault, none⟩ .following .run)).state = .blind
      ∧ (stuOf (steering ⟨.good, some 9⟩ .jammed .run)).measured = some 9
      ∧ (stuOf (steering ⟨.good, some 9⟩ .resting .joining)).measured = some 9
      ∧ (stuOf (steering ⟨.fault, none⟩ .blind .run)).state = .blind
      ∧ (stuOf (steering ⟨.good, some 9⟩ .stopped .run)).reqStbd = 332
      ∧ (stuOf (steering ⟨.good, some 9⟩ .blind .run)).state = .following
      ∧ (stuOf (steering ⟨.good, some 9⟩ .blind .hold)).state = .resting
      ∧ (stuOf (steering ⟨.good, some 9⟩ .stopped .joining)).state = .resting
      ∧ (stuOf (steering ⟨.fault, none⟩ .stopped .run)).state = .blind
      ∧ (stuOf (steering ⟨.fault, none⟩ .resting .safe)).state = .resting := by decide +kernel

theorem test_witness_JamTimer :
    (steering ⟨.good, some 4⟩ .following .run).stu.jam = some ⟨0, .stbd, 4000000⟩
      ∧ (after .jamTimerExpiry (steering ⟨.good, some 4⟩ .following .run)).stu.state = .jammed
      ∧ (after .jamTimerExpiry (steering ⟨.good, some 4⟩ .following .run)).tau.latched.rudderJam = true := by decide +kernel

/-- Coils cut with the port side active, by STEER_STOP and by its own end stop, not by the other (R167, R168). -/
theorem test_witness_RudderOverrides :
    let driving : State := { demo with dch := { demo.dch with rud := ⟨500, 0, 500, 0, none, none⟩ } }
    demo.pins.steerStop = false ∧ demo.pins.portLim = false ∧ activeSide driving.dch.rud = some .one
      ∧ (after .steerStopActive driving).dch.rud = ⟨0, 0, 0, 0, some .one, some 1000100⟩
      ∧ (after .steerStopActive driving).stu.state = .stopped
      ∧ (after (.endStopActive .port) driving).dch.rud = ⟨500, 0, 0, 0, some .one, some 1000100⟩
      ∧ (after (.endStopActive .stbd) driving).dch.rud = driving.dch.rud
      ∧ (after .steerStopInactive (after .steerStopActive driving)).pins.steerStop = false := by decide +kernel

/-! ### Trip and alarms -/

theorem test_witness_TripFrame :
    admits (rx fTrip demo) fTrip ∧ fTrip.cls = clsTrip ∧ demo.tau.latch = false
      ∧ (after .trip (rx fTrip demo)).tau.record = some ⟨.parted, 2, some .a⟩
      ∧ (after .trip (rx fTrip demo)).tsu.sp = 0
      ∧ (after .trip (rx fTrip (winchIn .takingUp))).cu.a.state = .holding
      ∧ (after .trip (rx fTrip (winchIn .releasing))).cu.a.state = .released := by
  refine ⟨?_, ?_⟩
  · unfold admits; decide +kernel
  · decide +kernel

/-- CLEAR_TRIP in the order of R141, and ACK_ALARMS with the mask bit of the alarm and another (R143, R145). -/
theorem test_witness_ClearTripAndAck :
    let latched (d : Int) (causes : List OwnCause) : State :=
      { demo with
        tau := { demo.tau with latch := true, causes := causes, latched := { demo.tau.latched with gearFault := true } }
        hcu := { demo.hcu with demand := { demo.hcu.demand with d := d } } }
    let clear (s : State) := after .clearTrip (rx (fConsole [5, 7]) s)
    let ack (bits : Nat) := after .ackAlarms (rx (fConsole ([6, 255] ++ putU 4 bits)) (latched 0 []))
    admits (rx (fConsole [5, 7]) demo) (fConsole [5, 7])
      ∧ (clear (latched 0 [])).tau.latch = false ∧ (clear (latched 1 [])).tbi.lastRefusal = some ⟨2, 31, .demand⟩
      ∧ (clear (latched 1 [.tripIn])).tbi.lastRefusal = some ⟨2, 31, .causeActive⟩
      ∧ (after .clearTrip (rx (fConsole [5, 8]) (latched 0 []))).tau.latch = true
      ∧ (ack 16).tau.latched.gearFault = false ∧ (ack 8).tau.latched.gearFault = true := by
  refine ⟨?_, ?_⟩
  · unfold admits; decide +kernel
  · decide +kernel

/-- A JAMMED rudder acknowledged: it settles by station state, rest policy and STEER_STOP (R69, R81, R83, R84). -/
theorem test_jam_acknowledged :
    let jammed (st : StationState) (rest : RestPolicy) (stop : Bool) : State :=
      { demo with
        sc := { demo.sc with station := st, p2 := some { demoP2 1000 1 with rest := rest } }
        stu := { demo.stu with state := .jammed, responsive := false, latest := some ⟨.good, some 40⟩ }
        tau := { demo.tau with latched := { demo.tau.latched with rudderJam := true } }
        pins := { demo.pins with steerStop := stop } }
    let acked (st : StationState) (rest : RestPolicy) (stop : Bool) : RudderState × Bool :=
      let t := after .ackAlarms (rx (fConsole ([6, 7] ++ putU 4 64)) (jammed st rest stop))
      (t.stu.state, t.stu.responsive)
    admits (rx (fConsole ([6, 7] ++ putU 4 64)) (jammed .hold .centre false)) (fConsole ([6, 7] ++ putU 4 64))
      ∧ acked .run .centre false = (.following, true) ∧ acked .run .centre true = (.stopped, false)
      ∧ acked .hold .centre false = (.following, false) ∧ acked .hold .holdPosition false = (.resting, false)
      ∧ acked .joining .centre false = (.resting, false) ∧ acked .safe .centre true = (.resting, false) := by
  refine ⟨?_, ?_⟩
  · unfold admits; decide +kernel
  · decide +kernel

/-- TRIP_IN begins the cause in RUN and not in SAFE, and ends it (R137, R138); the repeat queues the newest (R139). -/
theorem test_witness_OwnCauses :
    let pulled (b : Bool) (causes : List OwnCause) : State :=
      let s := sampled 300
      { s with
        tau := { s.tau with causes := causes, repeatTimer := some 2000000 }
        ssq := { s.ssq with sample := s.ssq.sample.map fun m => { m with pins := ⟨false, false, false, b⟩ } } }
    (pulled true []).due.tau = true ∧ (after .tauScanCompletion (pulled true [])).tau.causes = [.tripIn]
      ∧ (after .tauScanCompletion (pulled true [])).tau.latch = true
      ∧ (after .tauScanCompletion { pulled true [] with sc := { demo.sc with station := .safe } }).tau.causes = []
      ∧ (after .tauScanCompletion (pulled false [.tripIn])).tau.repeatTimer = none
      ∧ (after .tripRepeatExpiry (pulled true [.tripIn, .parted .b])).tbi.slots.trip.map (·.frame.payload) = some [1, 2] := by
  decide +kernel

/-! ### Couplings -/

/-- COUPLE to winch A in a state, answered by the winch state after it and the last refusal. -/
def coupled (action : Byte) (s : State) : WinchState × Option Reason :=
  let t := after (if action = 1 then .coupleMakeFast else .coupleRelease) (rx (fCouple action) s)
  (t.cu.a.state, t.tbi.lastRefusal.map (·.reason))

/-- MAKE_FAST in each state (R105), RELEASE in each state and at |D| 50 and 51 (R106). -/
theorem test_witness_CoupleFrames :
    let calm (d : Int) : State := { demo with hcu := { demo.hcu with demand := ⟨d, 0, .confined, none, true⟩ } }
    admits (rx (fCouple 1) demo) (fCouple 1) ∧ winchOf (getU 1 1 (fCouple 1).payload) = some .a
      ∧ coupled 1 (winchIn .slack) = (.takingUp, none) ∧ coupled 1 (winchIn .parted) = (.takingUp, none)
      ∧ coupled 1 (winchIn .takingUp) = (.takingUp, none) ∧ coupled 1 (winchIn .blind) = (.blind, some .state)
      ∧ coupled 2 (winchIn .releasing) = (.releasing, none) ∧ coupled 2 (winchIn .overload) = (.overload, some .state)
      ∧ coupled 2 { demo with tau := { demo.tau with latch := true } } = (.holding, some .trip)
      ∧ coupled 2 demo = (.holding, some .mode) ∧ coupled 2 (calm 51) = (.holding, some .demand)
      ∧ coupled 2 (calm 50) = (.releasing, none)
      ∧ coupled 1 { demo with sc := { demo.sc with fitted := { demo.sc.fitted with winchA := false } } } =
          (.holding, some .notFitted) := by
  refine ⟨?_, ?_⟩
  · unfold admits; decide +kernel
  · decide +kernel

/-- Winch A after a scan completion at a tension, from a state with a run count. -/
def scannedA (st : WinchState) (runs : Nat) (tension : Int) : Winch :=
  let s := sampled tension
  (after .cuScanCompletion { s with cu := { s.cu with a := { s.cu.a with state := st, runCount := runs } } }).cu.a

/-- The tables of R89 to R97 at their thresholds: T_parted 20, T_low 150, T_set 300, T_high 600, T_trip 900,
hysteresis 50; the cap of R101 as section 5.2 works it. -/
theorem test_witness_WinchScan :
    (scannedA .takingUp 0 300).state = .holding ∧ (scannedA .takingUp 0 299).state = .takingUp
      ∧ (scannedA .holding 0 19).state = .parted ∧ (scannedA .holding 0 20).runCount = 1
      ∧ (scannedA .holding 4 149).state = .takingUp ∧ (scannedA .holding 4 150).runCount = 0
      ∧ (scannedA .holding 0 600).state = .overload ∧ (scannedA .holding 0 750).ownCap = some 3000
      ∧ (scannedA .overload 0 900).state = .rendering ∧ (scannedA .overload 0 620).ownCap = some 5600
      ∧ (scannedA .overload 9 549).state = .holding ∧ (scannedA .overload 9 550).runCount = 0
      ∧ (scannedA .overload 0 899).ownCap = some 1500 ∧ (scannedA .rendering 0 300).state = .holding
      ∧ (scannedA .rendering 0 301).state = .rendering ∧ (scannedA .blind 9 150).state = .holding
      ∧ (scannedA .blind 9 149).state = .slack ∧ (scannedA .blind 8 150).runCount = 9
      ∧ (scannedA .slack 0 900).state = .slack := by decide +kernel

/-- A parted winch sets the latch and stops the other's operation (R96, R107). -/
theorem test_parting_reaches_the_other_winch :
    let s := sampled 19
    let t := after .cuScanCompletion { s with cu := ⟨s.cu.a, { s.cu.b with state := .takingUp, opTimer := some 5000000 }⟩ }
    t.cu.a.state = .parted ∧ t.cu.b.state = .slack ∧ t.tau.causes = [.parted .a] ∧ t.tau.latch = true := by
  decide +kernel

theorem test_witness_WinchTimers :
    let timed (st : WinchState) : State :=
      { demo with
        cu :=
          { demo.cu with
            a :=
              { demo.cu.a with
                state := st, opTimer := some 1100000, dwellTimer := some 1100000, capTimer := some 1100000
                ownCap := some 1500 } } }
    (after (.takeupLimitExpiry .a) (timed .takingUp)).cu.a.state = .slack
      ∧ (after (.takeupLimitExpiry .a) (timed .takingUp)).tau.latched.takeupFailedA = true
      ∧ (after (.renderLimitExpiry .a) (timed .rendering)).cu.a.renderInhibit = true
      ∧ (after (.releaseTimeExpiry .a) (timed .releasing)).cu.a.state = .released
      ∧ (after (.brakeDwellExpiry .a) (timed .takingUp)).dch.wa.req1 = 300
      ∧ (after (.brakeDwellExpiry .a) (timed .rendering)).dch.wa.req2 = 400
      ∧ (after (.brakeDwellExpiry .a) (timed .releasing)).dch.wa.req2 = 300
      ∧ (after (.capRepeatExpiry .a) (timed .blind)).tbi.slots.capA.map (·.frame.payload) =
          some ([1] ++ putU 2 1500 ++ putU 2 300) := by decide +kernel

/-! ### Fuel -/

theorem test_witness_FuelWindow :
    (∀ t, some (90 : Int) = some t → -20 ≤ t ∧ t ≤ 90) ∧ (∀ t, (none : Option Int) = some t → -20 ≤ t ∧ t ≤ 90)
      ∧ (windowStep demoP4 ⟨0, 4095, 0, 0⟩ (some 90) keptCleared).flags.pulseOverrange = true
      ∧ windowStep demoP4 ⟨0, 1, 0, 0⟩ none { keptCleared with flags := { flagsNone with saturated := true } } =
          { keptCleared with flags := { flagsNone with saturated := true } } := by
  refine ⟨?_, ?_, by decide +kernel⟩
  · rintro t h
    cases h
    decide
  · rintro t h
    cases h

/-- The ring at 15 and 16 samples (R118, R119), and the sounding at a table point and just below it. -/
theorem test_witness_FuelScan :
    let ringed (n : Nat) : State :=
      let s := sampled 300
      { s with fau := { s.fau with ring := List.replicate n 1234 } }
    (ringed 15).due.fau = true ∧ (ringed 16).fau.ring.length ≤ 16
      ∧ (after .fauScanCompletion (ringed 14)).fau.vNow = none
      ∧ (after .fauScanCompletion (ringed 15)).fau.vNow = some 6487
      ∧ (after .fauScanCompletion (ringed 15)).fau.kept.vOpen = some 6487
      ∧ (after .fauScanCompletion (ringed 16)).fau.ring.length = 16
      ∧ (∀ i, i < 10 → demoP4.volumes.getD i 0 ≤ demoP4.volumes.getD (i + 1) 0)
      ∧ sounding demoP4 2000 = 10400 ∧ sounding demoP4 1999 = 10395 ∧ sounding demoP4 200 = 900 := by decide +kernel

/-- LEG at, after, further after and before the open leg (R124), and an evaluation in and out of the tolerance of
40 (R122, R123). -/
theorem test_witness_LegAndAccountTimer :
    let legged (n : Nat) := after .leg (rx (fLeg n) demo)
    let open' (v recon : Nat) : State :=
      { demo with fau := { demo.fau with kept := { demo.fau.kept with vOpen := some 6487 }, vNow := some v, recon := recon } }
    admits (rx (fLeg 21) demo) (fLeg 21) ∧ demo.fau.kept.closed.length ≤ 4
      ∧ (legged 20).fau.kept.closed = [] ∧ (legged 21).fau.kept.leg = 21
      ∧ ((legged 21).fau.kept.closed.map (·.flags.gap)) = [false] ∧ ((legged 22).fau.kept.closed.map (·.flags.gap)) = [true]
      ∧ (legged 19).tbi.counters.staleLeg = 1
      ∧ (after .accountTimerExpiry (open' 6447 1)).fau.recon = 0 ∧ (after .accountTimerExpiry (open' 6446 1)).fau.recon = 2
      ∧ (after .accountTimerExpiry (open' 6446 2)).tau.latched.fuelDiscrepancy = true
      ∧ (after .accountTimerExpiry demo).tbi.slots.accountCurrent.isSome = true := by
  refine ⟨?_, ?_⟩
  · unfold admits; decide +kernel
  · decide +kernel

/-! ### Sensing and drive -/

theorem test_witness_SensingScan :
    let pins : ScanPins := ⟨false, false, false, true⟩
    let s := after (.scanTrigger pins) demo
    let last : State := { demo with ssq := { demo.ssq with scan := .busy .fuelTemp } }
    let cut : State := { demo with ssq := { demo.ssq with scan := .interrupted } }
    demo.ssq.controlTimer = some 1050000 ∧ s.ssq.scan = .busy .l1 ∧ s.ssq.controlTimer = some 1150000
      ∧ (after (.scanTrigger pins) last).tbi.counters.scanOverrun = 1
      ∧ (after (.conversionEnd 2100 pins) { demo with ssq := { demo.ssq with scan := .busy .l1 } }).ssq.scan = .busy .l2
      ∧ (after (.conversionEnd 2100 pins) last).due = ⟨true, true, true, true, true, true⟩
      ∧ ((after (.conversionEnd 2100 pins) last).ssq.sample.map (·.pins.tripIn)) = some true
      ∧ (after .interruptedConversionEnd cut).ssq.scan = .waiting
      ∧ (after (.pulseEdge .fill) demo).ssq.pulses.fill = 1 := by decide +kernel

/-- R155 and R156 at 204, 205, 4000 and 4001, and at the last run before a change. -/
theorem test_witness_ChannelRules :
    let step' (r : ChannelRec) (raw : Nat) :=
      channelStep { demo with ssq := { demo.ssq with channels := { demo.ssq.channels with l1 := r } } } .l1 raw
    step' channelReset 205 = ⟨.good, some 205, some 205, 0, 0⟩ ∧ step' channelReset 4000 = ⟨.good, some 4000, some 4000, 0, 0⟩
      ∧ (step' ⟨.good, some 7, some 7, 0, 0⟩ 204).status = .suspect
      ∧ (step' ⟨.good, some 7, some 7, 0, 0⟩ 4001).status = .suspect
      ∧ (step' ⟨.suspect, some 7, some 7, 3, 0⟩ 4001).status = .suspect
      ∧ (step' ⟨.suspect, some 7, some 7, 4, 0⟩ 4001).status = .fault
      ∧ (step' ⟨.fault, none, some 7, 0, 8⟩ 205).status = .fault ∧ (step' ⟨.fault, none, some 7, 0, 9⟩ 205).status = .good
      ∧ (demoP2 1000 1).rudder.rawMin < (demoP2 1000 1).rudder.rawMax := by decide +kernel

/-- A duty of 300 is on at the 299th µs after a boundary and off at the 300th; duties 0 and 1000 at both ends (R163). -/
theorem test_pwm_levels :
    let out (k app : Nat) : Bool := outPwm { demo with now := 1000000 + k, dch := { demo.dch with gov := ⟨0, app⟩ } } .gov
    out 0 300 = true ∧ out 299 300 = true ∧ out 300 300 = false ∧ out 999 300 = false ∧ out 0 0 = false
      ∧ out 999 1000 = true ∧ out 1000 1000 = true ∧ out 1300 300 = false := by decide +kernel

/-- A side reversed runs its dead-time, a waiting side starts once it has ended, a pending brake engages, and nothing
drives under the rest hold (R165, R166, R169, R172). -/
theorem test_witness_PeriodBoundary :
    let with' (p : Pair) (hold : Bool) : State :=
      { demo with
        dch := { demo.dch with rud := p, wa := ⟨0, 0, 300, 0, none, none⟩, brakeA := ⟨true, true⟩, restHold := hold } }
    (after .periodBoundary (with' ⟨0, 400, 300, 0, none, none⟩ false)).dch.rud = ⟨0, 400, 0, 0, some .one, some 1001100⟩
      ∧ (after .periodBoundary (with' ⟨0, 400, 0, 0, some .one, some 1001100⟩ false)).dch.rud.app2 = 0
      ∧ (after .periodBoundary (with' ⟨0, 400, 0, 0, some .one, none⟩ false)).dch.rud.app2 = 400
      ∧ (after .periodBoundary (with' ⟨0, 400, 0, 0, none, none⟩ true)).dch.rud.app2 = 0
      ∧ (after .periodBoundary (with' ⟨0, 0, 0, 0, none, none⟩ false)).dch.brakeA = ⟨false, false⟩
      ∧ (after (.deadTimeExpiry .rudder) (with' ⟨0, 400, 0, 0, some .one, some 1001100⟩ false)).dch.rud.dead = none := by
  decide +kernel

/-- The discrete lines by their requests, under the rest hold, and without their machinery (R169 to R173). -/
theorem test_output_lines :
    let lit (hold fitted : Bool) : State :=
      { demo with
        sc := { demo.sc with fitted := ⟨fitted, fitted, fitted, fitted, fitted⟩ }
        dch := { demo.dch with gearReq := .astern, lampReq := true, brakeB := ⟨true, false⟩, restHold := hold } }
    let lines (s : State) := [outGearAh s, outGearAs s, outBrake s .a, outBrake s .b, outLamp s, outFault s]
    lines (lit false true) = [false, true, false, true, true, false]
      ∧ lines (lit true true) = [false, false, false, false, false, false]
      ∧ lines (lit false false) = [false, false, false, false, false, false]
      ∧ outFault { demo with powered := false } = true := by decide +kernel

/-! ### Station control and queries -/

/-- Station 4 of the example convoy (HELM) in LISTEN, with P1 present, and its P5 part with a match band. -/
def listening : State :=
  { State.reset with
    sc := { scReset 4 ⟨false, false, false, false, true⟩ with p1 := some (demoP1 0) }
    dch := { State.reset.dch with faultReq := false } }
def fPart (block part : Byte) (band : Nat) : Frame :=
  let lever := putU 2 400 ++ putU 2 2100 ++ putU 2 3800 ++ putU 2 60
  ⟨clsCommission, 31, [block, part] ++ lever ++ lever ++ putU 2 band⟩

/-- A complete set locks and enters JOINING; a field out of range, a part 2 of P5, an unfitted block, a present block
and no block do as R200 gives. -/
theorem test_witness_Commission :
    let sent (f : Frame) (s : State) := after .commission (rx f s)
    let refusal (f : Frame) (s : State) := (sent f s).sc.lastRefusal
    let crossed : Frame :=
      ⟨clsCommission, 31, [5, 1] ++ putU 2 400 ++ putU 2 460 ++ putU 2 3800 ++ putU 2 60 ++ putU 2 400 ++ putU 2 2100
        ++ putU 2 3800 ++ putU 2 60 ++ putU 2 50⟩
    admits (rx (fPart 5 1 50) listening) (fPart 5 1 50) ∧ (fPart 5 1 50).cls = clsCommission
      ∧ (sent (fPart 5 1 50) listening).sc.station = .joining ∧ (sent (fPart 5 1 50) listening).sc.lock = true
      ∧ (sent (fPart 5 1 50) listening).sc.joinTimer = some 1500000
      ∧ refusal (fPart 5 1 9) listening = some ⟨some .p5, .range⟩ ∧ refusal (fPart 5 2 50) listening = some ⟨some .p5, .range⟩
      ∧ refusal crossed listening = some ⟨some .p5, .order⟩ ∧ (sent crossed listening).sc.staging = []
      ∧ refusal (fPart 2 1 50) listening = some ⟨some .p2, .notFitted⟩
      ∧ refusal (fPart 6 1 50) listening = some ⟨none, .range⟩
      ∧ (sent (fPart 1 1 50) listening).tbi.counters.ignored = 1
      ∧ refusal (fPart 5 1 50) { listening with sc := { listening.sc with lock := true } } = some ⟨some .p5, .locked⟩
      ∧ refusal (fPart 5 1 50) { listening with sc := { listening.sc with number := 31 } } = some ⟨some .p5, .state⟩ := by
  refine ⟨?_, ?_⟩
  · unfold admits; decide +kernel
  · decide +kernel

/-- A part of two staged, then the other: the block is ready, and P3 is written (R199, R200). -/
theorem test_two_parts :
    let p : List Byte := partOf (p3Fields demoP3)
    let q : List Byte := partOf (p3Pairs demoP3)
    let c : Sc := { scReset 6 ⟨false, false, true, true, false⟩ with p1 := some (demoP1 0) }
    blockReady (partStaged c .p3 1 p) .p3 = false
      ∧ blockReady (partStaged (partStaged c .p3 1 p) .p3 2 q) .p3 = true
      ∧ blockFailure (partStaged (partStaged c .p3 1 p) .p3 2 q) .p3 = none
      ∧ (writeBlock (partStaged (partStaged c .p3 1 p) .p3 2 q) .p3).p3 = some demoP3 := by decide +kernel

/-- A kept saturated leg and an active STEER_STOP input are reported at the entry to JOINING (R111, R82). -/
theorem test_entry_to_joining_reports :
    let k : Retained := { keptCleared with flags := { flagsNone with saturated := true } }
    let s : State := { demo with fau := fauReset k (retentionCrc k), pins := ⟨true, false, false⟩ }
    (after (.lineReset 7 demo.sc.fitted) s).tau.latched =
        { latchedNone with accountSaturated := true, steerStop := true } := by decide +kernel

theorem test_witness_StationChanges :
    let joining : State := { demoIn .joining with sc := { demo.sc with station := .joining, joinTimer := some 1500000 } }
    admits (rx (fConsole [7, 7]) demo) (fConsole [7, 7]) ∧ admits (rx (fConsole [8, 255]) demo) (fConsole [8, 255])
      ∧ (after .holdStation (rx (fConsole [7, 7]) demo)).sc.station = .hold
      ∧ (after .holdStation (rx (fConsole [7, 7]) (helmIn .inCommand))).tbi.lastRefusal = some ⟨2, 31, .holder⟩
      ∧ (after .releaseStation (rx (fConsole [8, 255]) (demoIn .hold))).sc.station = .run
      ∧ (after .releaseStation (rx (fConsole [8, 7]) demo)).tbi.lastRefusal = some ⟨2, 31, .state⟩
      ∧ (after .reportTimerExpiry demo).sc.reportTimer = some 1700000
      ∧ (after .joinTimerExpiry joining).sc.station = .run ∧ (after .joinTimerExpiry joining).cu.a.state = .blind := by
  refine ⟨?_, ?_, ?_⟩
  · unfold admits; decide +kernel
  · unfold admits; decide +kernel
  · decide +kernel

/-- Each subject's reply; the last page, the page after it, and a full REPLY queue (R189, R209). -/
theorem test_witness_Queries :
    let asked (c : Instr) (f : Frame) := (after c (rx f demo)).tbi.replies.map (·.frame.payload.length)
    let busy : State := { demo with tbi := { demo.tbi with replies := List.replicate 4 ⟨⟨clsReply, 7, []⟩, 0, 0⟩ } }
    admits (rx (fQuery 3 2 0) demo) (fQuery 3 2 0) ∧ subjectOf (getU 1 1 (fQuery 3 2 0).payload) = some .peer
      ∧ asked .queryCounters (fQuery 1 0 0) = [36] ∧ asked .queryCounters (fQuery 1 0 1) = [5]
      ∧ asked .queryPeer (fQuery 3 2 2) = [30] ∧ asked .queryPeer (fQuery 3 2 3) = [5]
      ∧ asked .queryConvoyFuel (fQuery 5 0 0) = [13]
      ∧ (after .queryLeg (rx (fQuery 4 0 0) busy)).tbi.counters.replyBusy = 1
      ∧ asked .queryAlarms ⟨clsQuery, 31, [8, 2, 0, 0]⟩ = [] := by
  refine ⟨?_, ?_⟩
  · unfold admits; decide +kernel
  · decide +kernel

/-- The alarm set as a mask (R143, R162, R206): none, the latched and the standing ones. -/
theorem test_alarm_mask :
    let quiet := { demo with cu := ⟨{ demo.cu.a with state := .holding }, { demo.cu.b with state := .slack }⟩, pt := ptReset }
    let tau := { quiet.tau with latched := { latchedNone with fuelDiscrepancy := true }, latch := true }
    alarmMask quiet = 0 ∧ alarmMask { quiet with tau := tau } = 69632
      ∧ alarmMask { quiet with cu := { quiet.cu with a := { quiet.cu.a with state := .overload } } } = 512
      ∧ alarmMask { quiet with cu := { quiet.cu with a := { quiet.cu.a with state := .blind } } } = 128 := by decide +kernel

/-- The bytes of absent records, and the forms of CONVOY_FUEL whose bytes are free (R205, R209; logs 18, 34). -/
theorem test_absent_records :
    let answer (c : Instr) (f : Frame) (s : State) := (after c (rx f s)).tbi.replies.map (·.frame.payload)
    let wide : State :=
      { demo with
        pt :=
          demo.pt.setIfInBounds 1
            { demoPeer with account := some ⟨false, demo.fau.kept.leg, 2147483647, 0, none, none, none, flagsNone⟩ }
        fau := { demo.fau with kept := { demo.fau.kept with accC := 100000 } } }
    let bare : State := { demo with sc := { demo.sc with fitted := { demo.sc.fitted with engine := false } } }
    (answer .queryCounters (fQuery 1 0 0) demo).map (·.drop 33) = [[255, 255, 0]]
      ∧ (answer .queryAlarms (fQuery 2 0 0) demo).map (·.drop 11) = [[0, 255, 0]]
      ∧ 2147483647 < convoySum wide
      ∧ (answer .queryConvoyFuel (fQuery 5 0 0) bare).map (·.take 6) = [[31, 5, 0, 0, 1, 0]]
      ∧ (after .queryConvoyFuel (rx (fQuery 5 0 0) bare)).freeSeq = demo.freeSeq + 1 := by decide +kernel

theorem test_witness_PayloadRoundTrips :
    let r := fullReport demo
    r.reported = .run ∧ r.period = 5 ∧ r.engine.isSome = r.fitted.engine ∧ r.helm.isSome = r.fitted.helm
      ∧ getStatus 6000 (putFullStatus r) = .full r
      ∧ getStatus 299 (putFullStatus { r with period := 1, winchA := some ⟨.overload, 4001, some 300⟩ }) =
          .full { r with period := 2, winchA := some ⟨.overload, 4000, some 299⟩ }
      ∧ getP1 (partOf (p1Fields true (demoP1 (-1)))) = demoP1 (-1)
      ∧ getP2 (partOf (p2Fields 1 (demoP2 1000 (-1)))) = demoP2 1000 (-1)
      ∧ getP4 (partOf (p4Fields demoP4)) (partOf (p4Volumes demoP4)) = demoP4
      ∧ getP5 (partOf (p5Fields demoP5)) = demoP5
      ∧ getAccount (putAccount ⟨true, 65535, -2147483648, 4294967295, some 4294967294, none, some (-2147483647), flagsNone⟩) =
          ⟨true, 65535, -2147483648, 4294967295, some 4294967294, none, some (-2147483647), flagsNone⟩ := by decide +kernel

/-! ### The conditions that every step keeps -/

/-- `demo` with a period boundary at the front. -/
def stepping : State := { demo with pending := [.periodBoundary] }

theorem test_witness_StepKeepsDrive :
    (pairsExclusive stepping ∧ drivesBounded stepping ∧ brakesInterlocked stepping ∧ faultExact stepping
        ∧ joiningTimed stepping)
      ∧ ∃ t, step stepping = .next t := by
  refine ⟨⟨?_, ⟨by decide, by decide, ?_, by decide, by decide⟩, ?_, ?_, fun h => absurd h (by decide)⟩, _, rfl⟩
  · unfold pairsExclusive pairExclusive; decide
  · rintro (_ | _ | _) <;> decide
  · rintro (_ | _) h <;> exact absurd rfl h
  · unfold faultExact; decide +kernel

theorem test_witness_StepKeepsThrustAndRudder :
    (deliveriesFitted stepping ∧ setPointBounded stepping ∧ gearConsistent stepping ∧ rudderConsistent stepping)
      ∧ ∃ t, step stepping = .next t := by
  refine ⟨⟨?_, ?_, ?_, ?_⟩, _, rfl⟩
  · unfold deliveriesFitted; decide +kernel
  · unfold setPointBounded; decide +kernel
  · refine ⟨?_, fun _ => rfl, ?_⟩
    · show (0 : Int) ≤ 500; decide
    · decide +kernel
  · unfold rudderConsistent; decide +kernel

theorem test_witness_StepKeepsHelmAndCouplings :
    (helmConsistent stepping ∧ couplingConsistent stepping ∧ causesConsistent stepping)
      ∧ ∃ t, step stepping = .next t := by
  have rest : winchesAtRest stepping := ⟨fun h => absurd h (by decide), fun h => absurd h (by decide)⟩
  refine ⟨⟨?_, ⟨?_, ?_, rest⟩, ?_, ?_, ?_, ?_, rest⟩, _, rfl⟩
  · unfold helmConsistent; decide +kernel
  · unfold winchConsistent capped; decide +kernel
  · unfold winchConsistent capped; decide +kernel
  · decide
  · rintro (_ | _) <;> decide +kernel
  · decide +kernel
  · decide +kernel

theorem test_witness_StepKeepsTablesAndLine :
    (ownRecordAbsent stepping ∧ recordsConsistent stepping ∧ pulsesBounded stepping ∧ channelsConsistent stepping
        ∧ countersBounded stepping ∧ lineConsistent stepping)
      ∧ ∃ t, step stepping = .next t := by
  refine ⟨⟨?_, ?_, ?_, ?_, ?_, ?_⟩, _, rfl⟩
  · unfold ownRecordAbsent; decide +kernel
  · unfold recordsConsistent recordConsistent; decide +kernel
  · unfold pulsesBounded; decide +kernel
  · rintro (_ | _) <;> (unfold channelConsistent; decide +kernel)
  · unfold countersBounded; decide +kernel
  · unfold lineConsistent; decide +kernel

/-- A step that loses nothing, with a closed leg at the farthest serial distance and an accumulator at its limit. -/
theorem test_witness_StepKeepsAccountAndRecord :
    let k : Retained :=
      { keptCleared with leg := 20, accC := 549755813887, resC := -9999, closed := [⟨32789, 0, 0, none, none, none, flagsNone⟩] }
    let s := { stepping with fau := fauReset k (retentionCrc k) }
    (¬ lossOfRetention s ∧ legsOrdered s.fau.kept ∧ accountBounded s.fau.kept ∧ levelConsistent s.fau
        ∧ s.fau.check = retentionCrc s.fau.kept)
      ∧ (s.sc.lock = true ∧ ∀ n m rest, s.pending ≠ Instr.powerOnReset n m :: rest) ∧ ∃ t, step s = .next t := by
  refine ⟨⟨?_, ?_, ?_, ?_, rfl⟩, ⟨rfl, ?_⟩, _, rfl⟩
  · rintro ⟨u, v, rest, h, -⟩
    cases h
  · unfold legsOrdered; decide +kernel
  · unfold accountBounded; decide +kernel
  · unfold levelConsistent; decide +kernel
  · intro n m rest h
    cases h

end Sys2Proof.Machine
end

section
/-! PROOFS. The lever mapping of R26: one equation for each of its three zones, the sign of the demand on either side of
the detent, and from these the bounds, the ends and the order. -/

namespace Sys2Proof.Machine

open Sys2Proof

/-! ### The truncating division by a positive divisor -/

theorem quot_nonneg {a b : Int} (ha : 0 ≤ a) (hb : 0 < b) : 0 ≤ quot a b := Int.tdiv_nonneg ha hb.le

theorem quot_le_quot {a a' b : Int} (hb : 0 < b) (h : a ≤ a') : quot a b ≤ quot a' b := Int.tdiv_le_tdiv hb h

theorem quot_mul_self (k : Int) {b : Int} (hb : 0 < b) : quot (k * b) b = k := Int.mul_tdiv_cancel k hb.ne'

/-! ### The two edges of the detent and the spans beyond them -/

/-- The detent's upper edge. -/
def leverUpper (c : LeverCal) : Int := c.rawNeutral + c.det

/-- The detent's lower edge. -/
def leverLower (c : LeverCal) : Int := c.rawNeutral - c.det

theorem leverLower_le_leverUpper (c : LeverCal) : leverLower c ≤ leverUpper c := by
  unfold leverLower leverUpper
  omega

/-- R200's order of a lever's points makes both divisors of R26 positive. -/
theorem leverOrdered_iff (c : LeverCal) :
    leverOrdered c = true ↔ 0 < leverLower c - c.rawNeg ∧ 0 < c.rawPos - leverUpper c := by
  unfold leverLower leverUpper
  simp only [leverOrdered, decide_eq_true_eq]
  omega

/-! ### The demand in each zone -/

section
variable {c : LeverCal} {raw raw' : Int}

theorem leverDemand_above (h : leverUpper c < raw) :
    leverDemand c raw = min 1000 (quot (1000 * (raw - leverUpper c)) (c.rawPos - leverUpper c)) := if_pos h

theorem leverDemand_below (h : raw < leverLower c) :
    leverDemand c raw = max (-1000) (-(quot (1000 * (leverLower c - raw)) (leverLower c - c.rawNeg))) :=
  (if_neg (h.trans_le (leverLower_le_leverUpper c)).not_gt).trans (if_pos h)

theorem leverDemand_detent (hl : leverLower c ≤ raw) (hu : raw ≤ leverUpper c) : leverDemand c raw = 0 :=
  (if_neg hu.not_gt).trans (if_neg hl.not_gt)

/-! ### The ends, the sign, the bounds and the order -/

theorem leverDemand_rawPos (hc : leverOrdered c = true) : leverDemand c c.rawPos = 1000 := by
  obtain ⟨-, hpos⟩ := (leverOrdered_iff c).1 hc
  rw [leverDemand_above (by omega), quot_mul_self _ hpos, min_self]

theorem leverDemand_rawNeg (hc : leverOrdered c = true) : leverDemand c c.rawNeg = -1000 := by
  obtain ⟨hneg, -⟩ := (leverOrdered_iff c).1 hc
  rw [leverDemand_below (by omega), quot_mul_self _ hneg, max_self]

theorem leverDemand_nonneg (hc : leverOrdered c = true) (h : leverLower c ≤ raw) : 0 ≤ leverDemand c raw := by
  obtain ⟨-, hpos⟩ := (leverOrdered_iff c).1 hc
  rcases le_or_gt raw (leverUpper c) with hu | hu
  · exact (leverDemand_detent h hu).ge
  · have := quot_nonneg (a := 1000 * (raw - leverUpper c)) (by omega) hpos
    rw [leverDemand_above hu]
    omega

theorem leverDemand_nonpos (hc : leverOrdered c = true) (h : raw ≤ leverUpper c) : leverDemand c raw ≤ 0 := by
  obtain ⟨hneg, -⟩ := (leverOrdered_iff c).1 hc
  rcases le_or_gt (leverLower c) raw with hl | hl
  · exact (leverDemand_detent hl h).le
  · have := quot_nonneg (a := 1000 * (leverLower c - raw)) (by omega) hneg
    rw [leverDemand_below hl]
    omega

theorem leverDemand_le (hc : leverOrdered c = true) (raw : Int) : leverDemand c raw ≤ 1000 := by
  rcases le_or_gt raw (leverUpper c) with hu | hu
  · exact (leverDemand_nonpos hc hu).trans (by decide)
  · exact (leverDemand_above hu).trans_le (min_le_left _ _)

theorem le_leverDemand (hc : leverOrdered c = true) (raw : Int) : -1000 ≤ leverDemand c raw := by
  rcases le_or_gt (leverLower c) raw with hl | hl
  · exact le_trans (by decide) (leverDemand_nonneg hc hl)
  · exact (le_max_left _ _).trans_eq (leverDemand_below hl).symm

/-- Two values on one side of the detent are compared by their quotients; any others have 0 between their demands. -/
theorem leverDemand_mono (hc : leverOrdered c = true) (h : raw ≤ raw') : leverDemand c raw ≤ leverDemand c raw' := by
  obtain ⟨hneg, hpos⟩ := (leverOrdered_iff c).1 hc
  rcases lt_or_ge (leverUpper c) raw with hu | hu
  · rw [leverDemand_above hu, leverDemand_above (hu.trans_le h)]
    exact min_le_min_left _ (quot_le_quot hpos (by omega))
  rcases lt_or_ge raw' (leverLower c) with hl | hl
  · rw [leverDemand_below (h.trans_lt hl), leverDemand_below hl]
    exact max_le_max_left _ (neg_le_neg (quot_le_quot hneg (by omega)))
  · exact (leverDemand_nonpos hc hu).trans (leverDemand_nonneg hc hl)

end

/-- Settles O25: the three zones' equations, and the ends, bounds and order derived from them. -/
theorem leverMapping : Obligations.LeverMapping := fun _ raw _ hc =>
  ⟨leverDemand_detent, leverDemand_above, leverDemand_below, leverDemand_rawPos hc, leverDemand_rawNeg hc,
    le_leverDemand hc raw, leverDemand_le hc raw, leverDemand_mono hc⟩

end Sys2Proof.Machine
end

section
/-! PROOFS. The compensation factor and the command angle of R72 and R73. The three divided steps are one operation, a
scaling by thousandths; it is odd and its magnitude is that of the truncated natural quotient, and the clamp is odd and within
its ends, so the angle has these properties too. -/

namespace Sys2Proof.Machine

open Sys2Proof

/-! ### The scaling step -/

/-- One divided step of R73: the product formed in full, then divided by 1000 toward zero. -/
def scaleMilli (a : Int) (n : Nat) : Int := quot (a * n) 1000

@[simp] theorem scaleMilli_zero (n : Nat) : scaleMilli 0 n = 0 := by simp [scaleMilli, quot]

@[simp] theorem scaleMilli_neg (a : Int) (n : Nat) : scaleMilli (-a) n = -scaleMilli a n := by
  simp only [scaleMilli, quot, Int.neg_mul, Int.neg_tdiv]

theorem natAbs_scaleMilli (a : Int) (n : Nat) : (scaleMilli a n).natAbs = a.natAbs * n / 1000 := by
  rw [scaleMilli, quot, Int.natAbs_tdiv, Int.natAbs_mul]
  rfl

theorem natAbs_scaleMilli_le {a : Int} {n A N : Nat} (ha : a.natAbs ≤ A) (hn : n ≤ N) :
    (scaleMilli a n).natAbs ≤ A * N / 1000 :=
  (natAbs_scaleMilli a n).trans_le (Nat.div_le_div_right (Nat.mul_le_mul ha hn))

/-! ### The clamp between opposite ends -/

theorem clampInt_symm_neg (t : Nat) (v : Int) : clampInt (-t) t (-v) = -clampInt (-t) t v := by
  unfold clampInt
  omega

theorem clampInt_symm_zero (t : Nat) : clampInt (-t) t 0 = 0 := by
  unfold clampInt
  omega

theorem natAbs_clampInt_symm_le (t : Nat) (v : Int) : (clampInt (-t) t v).natAbs ≤ t := by
  unfold clampInt
  omega

/-! ### The compensation factor -/

theorem compensation_bounds (c : P2) (live : Nat) : 1000 ≤ compensation c live ∧ compensation c live ≤ 1500 := by
  unfold compensation clampNat
  split
  · decide
  · exact ⟨le_max_left _ _, max_le (by decide) (min_le_left _ _)⟩

/-! ### The command angle -/

section
variable (c : P2) (r : Int) (comp : Nat)

theorem commandAngle_eq : commandAngle c r comp =
    clampInt (-c.thetaMax) c.thetaMax (scaleMilli (scaleMilli (scaleMilli r c.thetaMax) c.gain) comp) * c.sign := rfl

theorem commandAngle_zero : commandAngle c 0 comp = 0 := by
  simp [commandAngle_eq, clampInt_symm_zero]

theorem commandAngle_neg : commandAngle c (-r) comp = -commandAngle c r comp := by
  simp only [commandAngle_eq, scaleMilli_neg, clampInt_symm_neg, Int.neg_mul]

theorem natAbs_commandAngle_le (hs : c.sign.natAbs ≤ 1) : (commandAngle c r comp).natAbs ≤ c.thetaMax := by
  rw [commandAngle_eq, Int.natAbs_mul]
  exact (Nat.mul_le_mul (natAbs_clampInt_symm_le _ _) hs).trans_eq (Nat.mul_one _)

end

/-- Settles O34: the factor's and the angle's equations are their definitions; the ranges of a1, a2 and a3 follow from one
another, each by the bound of the scaling step. (The name `commandAngle` is the model's function.) -/
theorem commandAngle_spec : Obligations.CommandAngle := by
  intro c live r comp a1 a2 a3
  obtain ⟨hlow, hhigh⟩ := compensation_bounds c live
  refine ⟨rfl, hlow, hhigh, rfl, natAbs_commandAngle_le c r comp, commandAngle_zero c comp, commandAngle_neg c r comp, ?_⟩
  intro hr hθ hg
  have h1 : a1.natAbs ≤ 450 := natAbs_scaleMilli_le hr hθ
  have h2 : a2.natAbs ≤ 450 := natAbs_scaleMilli_le h1 hg
  have h3 : a3.natAbs ≤ 675 := natAbs_scaleMilli_le h2 hhigh
  exact ⟨h1, h2, h3⟩

end Sys2Proof.Machine
end

section
/-! PROOFS. COUPLE by R104 to R106. The rules come first: the two winch records of CU, R101's and R102's tables against the
model's cap functions, the start of an operation as a whole (R98), the end of an own cause, and what a frame row does with
the frame that admission admits. The two actions are then their tables, row by row. -/

namespace Sys2Proof.Machine

open Sys2Proof

/-! ### The winch records -/

@[simp] theorem winchRec_onWinch_same (w : WinchId) (f : Winch → Winch) (s : State) :
    winchRec (onWinch w f s) w = f (winchRec s w) := by
  cases w <;> rfl

@[simp] theorem winchRec_onWinch_other (w : WinchId) (f : Winch → Winch) (s : State) :
    winchRec (onWinch w f s) (otherWinch w) = winchRec s (otherWinch w) := by
  cases w <;> rfl

/-- Both records are CU's: an update of other parts of the state keeps them. -/
theorem winchRec_congr {s t : State} (h : t.cu = s.cu) (w : WinchId) : winchRec t w = winchRec s w := by
  cases w <;> simp only [winchRec, h]

@[simp] theorem winchRec_queueFrame (k : TxSlot) (c : BitVec 4) (p : List Byte) (n : Nat) (s : State) (w : WinchId) :
    winchRec (queueFrame k c p n s) w = winchRec s w := winchRec_congr (by simp) w

@[simp] theorem queueFrame_tbi (k : TxSlot) (c : BitVec 4) (p : List Byte) (n : Nat) (s : State) :
    (queueFrame k c p n s).tbi = queuedTbi s k c p n := rfl

/-! ### The own cap and its publication -/

theorem ownCapOf_eq_tableCap (s : State) (x : Winch) : ownCapOf s x = tableCap s x.state x.lastTension := by
  cases h : x.state <;> simp only [ownCapOf, tableCap, h] <;> rfl

theorem capNews_eq_capDiffers (s : State) (own last : Option Nat) :
    capNews s own last = capDiffers (cfg1 s).nominal own last := by
  cases own <;> cases last <;> rfl

/-- The winch that `recap` caps becomes its record with R101's cap, published by R102, as seen from an earlier state with
the same time, station record, line and other winch. -/
theorem winchBecomes_recap {s u : State} {w : WinchId} {x : Winch} (hnow : u.now = s.now) (hsc : u.sc = s.sc)
    (htbi : u.tbi = s.tbi) (hother : winchRec u (otherWinch w) = winchRec s (otherWinch w)) (hrec : winchRec u w = x) :
    winchBecomes s (recap w u) w x := by
  have hown : ownCapOf u x = tableCap s x.state x.lastTension := by
    rw [ownCapOf_eq_tableCap]
    simp only [tableCap, cfg1, cfg3, hsc]
  have hnews (own : Option Nat) : capNews u own x.lastCap = capDiffers (cfg1 s).nominal own x.lastCap := by
    rw [capNews_eq_capDiffers, cfg1, cfg1, hsc]
  unfold winchBecomes recap
  simp only [hrec, hown, hnews]
  split <;> simp [sendCap, queuedTbi, ms, hrec, hother, hnow, hsc, htbi]

/-! ### The start of an operation -/

/-- An operation's limit, given in seconds, on the own time base. -/
theorem ms_thousand_mul (n : Nat) : ms (1000 * n) = 1000000 * n := by
  unfold ms
  omega

theorem winchStarts_beginOp (w : WinchId) (st : WinchState) (limit : Nat) (s : State) :
    winchStarts s (beginOp w st limit s) w (winchRec s w) st limit := by
  refine ⟨?becomes, ?requests, ?frame⟩
  case becomes =>
    rw [startedWinch, ← ms_thousand_mul]
    exact winchBecomes_recap rfl rfl rfl (by cases w <;> rfl) (by cases w <;> rfl)
  case requests =>
    simp only [beginOp, enterWinch, recap_frame, onWinch_frame]
    rfl
  case frame =>
    intro p hp
    cases p <;> simp_all [StatePart.same]

/-! ### The end of an own cause -/

theorem endCause_eq (c : OwnCause) (s : State) : endCause c s = { s with tau := causeEnded s.tau c } := by
  unfold endCause causeEnded
  split
  · simp only [List.isEmpty_iff]
  · rfl

/-! ### What a frame row does with the admitted frame -/

theorem live_takeFrame_of_admits {s : State} {f : Frame} {fits : Frame → Bool} (owner : Frame → State → State)
    (h : admits s f) (hfits : fits f = true) : live (takeFrame fits owner) s = .next (owner f (taken s)) := by
  obtain ⟨hpowered, hhead, hjudge⟩ := h
  simp [live, takeFrame, hpowered, hhead, hfits, hjudge, settleFrame, taken]

theorem exec_coupleMakeFast (s : State) : exec .coupleMakeFast s = execCoupleMakeFast s := rfl

theorem exec_coupleRelease (s : State) : exec .coupleRelease s = execCoupleRelease s := rfl

/-- The command that takes a COUPLE frame: MAKE_FAST by action 1, RELEASE by action 2 and where the action names none
(log 3). -/
def coupleRow (f : Frame) : Instr := if getU 1 2 f.payload = 1 then .coupleMakeFast else .coupleRelease

/-- CU's rule for the action of a COUPLE frame (R105, R106). -/
def coupleAct (f : Frame) : Frame → WinchId → State → State :=
  if getU 1 2 f.payload = 1 then makeFast else releaseFall

/-- An admitted COUPLE goes to its owner by its action. -/
theorem exec_coupleRow {s : State} {f : Frame} (h : admits s f) (hcls : f.cls = clsCouple) :
    exec (coupleRow f) s = .next (ownCouple (coupleAct f) f (taken s)) := by
  unfold coupleRow coupleAct
  split
  next hact => exact live_takeFrame_of_admits _ h (by simp [ofAction, hcls, hact])
  next hact =>
    refine live_takeFrame_of_admits _ h ?_
    by_cases h2 : getU 1 2 f.payload = 2 <;> simp [ofAction, hcls, hact, h2]

/-! ### The target and the fitting (R104) -/

section
variable {f : Frame} {s : State} {w : WinchId} {act : Frame → WinchId → State → State}

theorem ownCouple_elsewhere (h : getU 1 0 f.payload ≠ s.sc.number.toNat) : ownCouple act f s = s := if_pos h

theorem ownCouple_notFitted (h : getU 1 0 f.payload = s.sc.number.toNat) (hw : winchOf (getU 1 1 f.payload) = some w)
    (hfit : winchFitted s.sc.fitted w = false) : ownCouple act f s = refuse f .notFitted s := by
  simp [ownCouple, h, hw, hfit]

theorem ownCouple_here (h : getU 1 0 f.payload = s.sc.number.toNat) (hw : winchOf (getU 1 1 f.payload) = some w)
    (hfit : winchFitted s.sc.fitted w = true) : ownCouple act f s = act f w s := by
  simp [ownCouple, h, hw, hfit]

end

/-! ### MAKE_FAST by the winch state (R105) -/

section
variable (f : Frame) {w : WinchId} {s : State}

theorem makeFast_of_loose (h : (winchRec s w).state = .slack ∨ (winchRec s w).state = .released) :
    makeFast f w s = beginTakeup w s := by
  rcases h with h | h <;> simp only [makeFast, h]

theorem makeFast_of_parted (h : (winchRec s w).state = .parted) :
    makeFast f w s = beginTakeup w { s with tau := causeEnded s.tau (.parted w) } := by
  simp only [makeFast, h, endCause_eq]

theorem makeFast_of_takingUp (h : (winchRec s w).state = .takingUp) : makeFast f w s = s := by
  simp only [makeFast, h]

theorem makeFast_of_busy
    (h : (winchRec s w).state = .holding ∨ (winchRec s w).state = .overload ∨ (winchRec s w).state = .rendering
      ∨ (winchRec s w).state = .releasing ∨ (winchRec s w).state = .blind ∨ (winchRec s w).state = .standby) :
    makeFast f w s = refuse f .state s := by
  rcases h with h | h | h | h | h | h <;> simp only [makeFast, h]

end

/-- The rows of R105's table, for the frame that reaches the winch. -/
theorem makeFast_by_table (f : Frame) (w : WinchId) (s : State) :
    let x := winchRec s w
    (x.state = .slack ∨ x.state = .released → winchStarts s (makeFast f w s) w x .takingUp (cfg3 s).takeupLimit)
      ∧ (x.state = .parted →
          winchStarts { s with tau := causeEnded s.tau (.parted w) } (makeFast f w s) w x .takingUp (cfg3 s).takeupLimit)
      ∧ (x.state = .takingUp → makeFast f w s = s)
      ∧ (x.state = .holding ∨ x.state = .overload ∨ x.state = .rendering ∨ x.state = .releasing
            ∨ x.state = .blind ∨ x.state = .standby →
          makeFast f w s = refuse f .state s) := by
  refine ⟨fun h => ?_, fun h => ?_, makeFast_of_takingUp f, makeFast_of_busy f⟩
  · rw [makeFast_of_loose f h]
    exact winchStarts_beginOp w .takingUp _ s
  · rw [makeFast_of_parted f h]
    exact winchStarts_beginOp w .takingUp _ _

/-! ### RELEASE by its conditions (R106) -/

/-- Taking the frame changes nothing that R106 asks about. -/
theorem releaseFall_taken (f : Frame) (w : WinchId) (s : State) :
    releaseFall f w (taken s) =
      if (winchRec s w).state = .releasing then taken s
      else if (winchRec s w).state ≠ .holding ∧ (winchRec s w).state ≠ .slack then refuse f .state (taken s)
      else if s.tau.latch = true then refuse f .trip (taken s)
      else if (used s).mode ≠ .confined then refuse f .mode (taken s)
      else if 50 < (used s).d.natAbs then refuse f .demand (taken s)
      else beginRelease w (taken s) := rfl

/-- Settles O42: an admitted COUPLE goes to CU, whose equations for R104 leave MAKE_FAST's table, or RELEASE's conditions
in their order. -/
theorem coupleFrames : Obligations.CoupleFrames := by
  intro s f w hadm hcls hw row x here
  have hrow : exec row s = .next (ownCouple (coupleAct f) f (taken s)) := exec_coupleRow hadm hcls
  have hact : here → exec row s = .next (coupleAct f f w (taken s)) := fun ⟨htarget, hfit⟩ =>
    hrow.trans (congrArg _ (ownCouple_here htarget hw hfit))
  refine ⟨fun htarget => ?elsewhere, fun htarget hfit => ?notFitted, fun hhere h1 => ?fast, fun hhere h2 => ?release⟩
  case elsewhere => exact hrow.trans (congrArg _ (ownCouple_elsewhere htarget))
  case notFitted => exact hrow.trans (congrArg _ (ownCouple_notFitted htarget hw hfit))
  case fast =>
    have hexec : exec .coupleMakeFast s = .next (makeFast f w (taken s)) := by
      simpa only [row, coupleAct, h1, if_true] using hact hhere
    obtain ⟨hloose, hparted, htaking, hbusy⟩ := makeFast_by_table f w (taken s)
    rw [hexec]
    exact ⟨fun h => ⟨_, rfl, hloose h⟩, fun h => ⟨_, rfl, hparted h⟩, fun h => congrArg _ (htaking h),
      fun h => congrArg _ (hbusy h)⟩
  case release =>
    have hexec : exec .coupleRelease s = .next (releaseFall f w (taken s)) := by
      simpa [row, coupleAct, h2] using hact hhere
    rw [hexec, releaseFall_taken]
    split_ifs with hreleasing hother hlatch hmode hdemand
    · rfl
    · rfl
    · rfl
    · rfl
    · rfl
    · exact ⟨_, rfl, winchStarts_beginOp w .releasing _ (taken s)⟩

end Sys2Proof.Machine
end

section
/-! PROOFS. One window of the fuel account by R112 to R116. The consumed fuel and the fill are integrated by one operation;
what it does to an accumulator and its residue is proved once, for the operation, and the window cites it for each account. -/

namespace Sys2Proof.Machine

open Sys2Proof

/-! ### One accumulator and its residue (R114, R116) -/

section
variable (acc res raw f : Int)

theorem integrate_res : (integrate acc res raw f).res = Int.tmod (raw * f + res) 10000 := by
  rw [Int.tmod_def, Int.mul_comm 10000]
  rfl

theorem natAbs_integrate_res_le : (integrate acc res raw f).res.natAbs ≤ 9999 := by
  rw [integrate_res, Int.natAbs_tmod]
  exact Nat.le_of_lt_succ (Nat.mod_lt _ (by decide))

theorem integrate_passed :
    (integrate acc res raw f).passed =
      decide ((549755813887 : Int) < (acc + Int.tdiv (raw * f + res) 10000).natAbs) := by
  refine decide_eq_decide.2 ?_
  simp only [accLimit, quot]
  omega

/-- Within the limit, what the truncation leaves out of the accumulator stands in the residue. -/
theorem integrate_keeps_volume (hlow : -549755813887 ≤ acc + Int.tdiv (raw * f + res) 10000)
    (hhigh : acc + Int.tdiv (raw * f + res) 10000 ≤ 549755813887) :
    (integrate acc res raw f).acc * 10000 + (integrate acc res raw f).res = acc * 10000 + res + raw * f := by
  simp only [integrate, clampInt, accLimit, quot]
  omega

end

/-- Values that are not negative stay so, and only the upper limit acts on them (R115). -/
theorem integrate_nonneg {acc res raw f : Int} (hacc : 0 ≤ acc) (hres : 0 ≤ res) (hvol : 0 ≤ raw * f) :
    let next := acc + Int.tdiv (raw * f + res) 10000
    0 ≤ next ∧ (integrate acc res raw f).acc = min 549755813887 next ∧ 0 ≤ (integrate acc res raw f).res := by
  intro next
  have hx : 0 ≤ raw * f + res := Int.add_nonneg hvol hres
  have hnext : 0 ≤ next := Int.add_nonneg hacc (Int.tdiv_nonneg hx (by decide))
  refine ⟨hnext, max_eq_right (le_min (by decide) (le_trans (by decide) hnext)), ?_⟩
  rw [integrate_res]
  exact Int.tmod_nonneg _ hx

/-! ### The window's two accounts (R113, R115) -/

/-- The range of f over the temperatures that R112 delivers or defaults. -/
theorem correction_bounds {temp : Option Int} (h : ∀ t, temp = some t → -20 ≤ t ∧ t ≤ 90) :
    9400 ≤ correction temp ∧ correction temp ≤ 10280 := by
  cases temp with
  | none => decide
  | some t =>
    obtain ⟨hlow, hhigh⟩ := h t rfl
    simp only [correction, Option.getD_some]
    omega

section
variable (c : P4) (n : PulseCounts) (temp : Option Int) (k : Retained)

/-- The consumed account of the leg after the window. -/
def consumedAfter : Integrated := integrate k.accC k.resC (rawConsumed c n) (correction temp)

/-- The fill account of the leg after the window. -/
def fillAfter : Integrated := integrate k.accF k.resF (rawFill c n) (correction temp)

theorem overrange_eq : overrange n = decide (n.supply = 4095 ∨ n.ret = 4095 ∨ n.fill = 4095) := by
  simp only [overrange, Bool.decide_or, Bool.or_assoc]
  rfl

variable {k}

theorem windowStep_of_saturated (h : k.flags.saturated = true) : windowStep c n temp k = k := if_pos h

theorem windowStep_of_unsaturated (h : k.flags.saturated = false) :
    windowStep c n temp k =
      { k with
        accC := (consumedAfter c n temp k).acc
        resC := (consumedAfter c n temp k).res
        accF := (fillAfter c n temp k).acc.toNat
        resF := (fillAfter c n temp k).res.toNat
        flags :=
          { k.flags with
            saturated := (consumedAfter c n temp k).passed || (fillAfter c n temp k).passed
            tempDefaulted := k.flags.tempDefaulted || temp.isNone
            pulseOverrange := k.flags.pulseOverrange || overrange n } } := if_neg (by simp [h])

end

/-- Settles O45: a saturated leg is left as it is; the two accounts of any other leg are the operation's, and the fill's
naturals stand for its integers because neither the pulse volume nor f is negative. -/
theorem fuelWindow : Obligations.FuelWindow := by
  intro c n temp k htemp f raw rawFill x y acc fill limit k'
  refine ⟨windowStep_of_saturated c n temp, fun hopen => ?_⟩
  have hvol : 0 ≤ rawFill * f :=
    Int.mul_nonneg (Int.natCast_nonneg _) (le_trans (by decide) (correction_bounds htemp).1)
  obtain ⟨hfill, haccF, hresF⟩ := integrate_nonneg (Int.natCast_nonneg k.accF) (Int.natCast_nonneg k.resF) hvol
  have hk' : k' = _ := windowStep_of_unsaturated c n temp hopen
  have hkAccC : k'.accC = (consumedAfter c n temp k).acc := by rw [hk']
  have hkResC : k'.resC = (consumedAfter c n temp k).res := by rw [hk']
  have hkAccF : (k'.accF : Int) = (fillAfter c n temp k).acc := by
    rw [hk']
    exact Int.toNat_of_nonneg ((le_min (by decide) hfill).trans_eq haccF.symm)
  have hkResF : (k'.resF : Int) = (fillAfter c n temp k).res := by
    rw [hk']
    exact Int.toNat_of_nonneg hresF
  have hpassed : ((consumedAfter c n temp k).passed || (fillAfter c n temp k).passed) =
      decide (limit < acc.natAbs ∨ limit < fill) := by
    have habs : (fill.natAbs : Int) = fill := Int.natAbs_of_nonneg hfill
    rw [Bool.decide_or, ← habs]
    exact congrArg₂ _ (integrate_passed ..) (integrate_passed ..)
  refine ⟨hkAccC, hkAccF.trans haccF, hkResC, hkResF, ?resCBound, ?resFBound, ?volumeC, ?volumeF, ?flags, ?frame⟩
  case resCBound =>
    rw [hkResC]
    exact natAbs_integrate_res_le _ _ _ _
  case resFBound =>
    have : (fillAfter c n temp k).res.natAbs ≤ 9999 := natAbs_integrate_res_le _ _ _ _
    omega
  case volumeC =>
    rw [hkAccC, hkResC]
    exact integrate_keeps_volume _ _ _ _
  case volumeF =>
    rw [hkAccF, hkResF]
    exact integrate_keeps_volume _ _ _ _ (le_trans (by decide) hfill)
  case flags => rw [hk', hpassed, overrange_eq]
  case frame => rw [hk']

end Sys2Proof.Machine
end

section
/-! PROOFS. The channel record after a sample (R155, R156) and the scaling of its figure (R158). The record's table is one
equation for each row; the scaling is a clamp of a truncated interpolation, and both keep the order of what they are given. -/

namespace Sys2Proof.Machine

open Sys2Proof

/-! ### The rows of R156's table -/

section
variable {r : ChannelRec} {v : Int}

theorem validSample_of_ne_fault (h : r.status ≠ .fault) : validSample v r = goodWith v := by
  unfold validSample
  split
  · rfl
  · rfl
  · rfl
  · next hfault => exact absurd hfault h

theorem validSample_of_fault (h : r.status = .fault) :
    validSample v r = if 9 ≤ r.validRun then goodWith v else { r with validRun := r.validRun + 1 } := by
  simp [validSample, h]

theorem invalidSample_of_good (h : r.status = .good) :
    invalidSample r = { r with status := .suspect, value := r.lastGood, invalidRun := 1 } := by
  simp only [invalidSample, h]

theorem invalidSample_of_noData_or_suspect (h : r.status = .noData ∨ r.status = .suspect) :
    invalidSample r =
      if 4 ≤ r.invalidRun then { r with status := .fault, value := none, invalidRun := 0, validRun := 0 }
      else { r with invalidRun := r.invalidRun + 1 } := by
  rcases h with h | h <;> simp [invalidSample, h]

theorem invalidSample_of_fault (h : r.status = .fault) : invalidSample r = { r with validRun := 0 } := by
  simp only [invalidSample, h]

end

/-! ### The band of R155 -/

section
variable {s : State} {ch : Channel} {raw : Nat}

theorem channelStep_of_valid (h : 205 ≤ raw ∧ raw ≤ 4000) :
    channelStep s ch raw = validSample (figureOf s ch raw) (channelOf s.ssq.channels ch) :=
  if_pos (decide_eq_true h)

theorem channelStep_of_invalid (h : raw < 205 ∨ 4000 < raw) :
    channelStep s ch raw = invalidSample (channelOf s.ssq.channels ch) :=
  if_neg (by simp only [rawValid, decide_eq_true_eq]; omega)

end

/-! ### The clamp between any two ends -/

section
variable {lo hi v v' : Int}

theorem le_clampInt : lo ≤ clampInt lo hi v := le_max_left _ _

theorem clampInt_le (h : lo ≤ hi) : clampInt lo hi v ≤ hi := max_le h (min_le_left _ _)

theorem clampInt_of_within (hlo : lo ≤ v) (hhi : v ≤ hi) : clampInt lo hi v = v := by
  rw [clampInt, min_eq_right hhi, max_eq_right hlo]

theorem clampInt_le_clampInt (h : v ≤ v') : clampInt lo hi v ≤ clampInt lo hi v' :=
  max_le_max_left _ (min_le_min_left _ h)

end

/-! ### The scaling of R158 -/

/-- R158's figure before its clamp. -/
def interpolate (c : CalPair) (raw : Nat) : Int :=
  c.engMin + quot (((raw : Int) - c.rawMin) * (c.engMax - c.engMin)) ((c.rawMax : Int) - c.rawMin)

theorem scale_eq_clampInt (c : CalPair) (raw : Nat) :
    scale c raw = clampInt (min c.engMin c.engMax) (max c.engMin c.engMax) (interpolate c raw) := rfl

theorem interpolate_rawMin (c : CalPair) : interpolate c c.rawMin = c.engMin := by
  simp [interpolate, quot]

section
variable {c : CalPair} {raw raw' : Nat}

theorem interpolate_rawMax (hc : c.rawMin < c.rawMax) : interpolate c c.rawMax = c.engMax := by
  rw [interpolate, Int.mul_comm, quot_mul_self _ (by omega)]
  omega

/-- A rising calibration: the product of the raw span and the figures' span rises with the raw value. -/
theorem interpolate_mono (hc : c.rawMin < c.rawMax) (hrise : c.engMin ≤ c.engMax) (h : raw ≤ raw') :
    interpolate c raw ≤ interpolate c raw' := by
  have hprod : ((raw : Int) - c.rawMin) * (c.engMax - c.engMin) ≤ (raw' - c.rawMin) * (c.engMax - c.engMin) :=
    Int.mul_le_mul_of_nonneg_right (by omega) (by omega)
  exact Int.add_le_add_left (quot_le_quot (by omega) hprod) _

/-- A falling calibration: the figures' span is not positive, so the product falls. -/
theorem interpolate_anti (hc : c.rawMin < c.rawMax) (hfall : c.engMax ≤ c.engMin) (h : raw ≤ raw') :
    interpolate c raw' ≤ interpolate c raw := by
  have hprod : ((raw' : Int) - c.rawMin) * (c.engMax - c.engMin) ≤ (raw - c.rawMin) * (c.engMax - c.engMin) :=
    Int.mul_le_mul_of_nonpos_right (by omega) (by omega)
  exact Int.add_le_add_left (quot_le_quot (by omega) hprod) _

theorem scale_rawMin (c : CalPair) : scale c c.rawMin = c.engMin := by
  rw [scale_eq_clampInt, interpolate_rawMin]
  exact clampInt_of_within (min_le_left _ _) (le_max_left _ _)

theorem scale_rawMax (hc : c.rawMin < c.rawMax) : scale c c.rawMax = c.engMax := by
  rw [scale_eq_clampInt, interpolate_rawMax hc]
  exact clampInt_of_within (min_le_right _ _) (le_max_right _ _)

theorem le_scale : min c.engMin c.engMax ≤ scale c raw := le_clampInt

theorem scale_le : scale c raw ≤ max c.engMin c.engMax := clampInt_le min_le_max

end

/-- Settles O49: each row of the table by the equation of its sample and status, the figure by its channel, and the scaling's
ends, bounds and order. -/
theorem channelRules : Obligations.ChannelRules := by
  constructor
  · intro s ch raw r figure q
    refine ⟨fun hvalid => ?valid, fun hinvalid => ?invalid, ?lever, ?_, ?_, ?_, ?_, ?_⟩
    case valid =>
      have hq : q = validSample figure r := channelStep_of_valid hvalid
      refine ⟨fun hne => ?_, fun hfault hrun => ?_, fun hfault hrun => ?_⟩
      · exact hq.trans (validSample_of_ne_fault hne)
      · exact hq.trans ((validSample_of_fault hfault).trans (if_pos hrun))
      · exact hq.trans ((validSample_of_fault hfault).trans (if_neg hrun.not_ge))
    case invalid =>
      have hq : q = invalidSample r := channelStep_of_invalid hinvalid
      refine ⟨fun hgood => ?_, fun hst hrun => ?_, fun hst hrun => ?_, fun hfault => ?_⟩
      · exact hq.trans (invalidSample_of_good hgood)
      · exact hq.trans ((invalidSample_of_noData_or_suspect hst).trans (if_neg hrun.not_ge))
      · exact hq.trans ((invalidSample_of_noData_or_suspect hst).trans (if_pos hrun))
      · exact hq.trans (invalidSample_of_fault hfault)
    case lever => rintro (rfl | rfl) <;> rfl
    all_goals
      rintro rfl
      rfl
  · intro c raw raw' hc
    exact ⟨rfl, scale_rawMin c, scale_rawMax hc, le_scale, scale_le,
      fun h hrise => clampInt_le_clampInt (interpolate_mono hc hrise h),
      fun h hfall => clampInt_le_clampInt (interpolate_anti hc hfall h)⟩

end Sys2Proof.Machine
end

section
/-! PROOFS. The commands as wholes: which parts of the state each can change, that each answers, what a step can do, the frame
rows as one (R183 to R188), what admission has judged, SC's record under the commands, and the two resets. -/

namespace Sys2Proof.Machine

open Sys2Proof

/-- The parts of the state that a command can change. -/
def changedBy : Instr → List StatePart
  | .powerOnReset _ _ =>
    [.powered, .now, .due, .sc, .tbi, .pt, .hcu, .tsu, .stu, .cu, .fau, .tau, .ssq, .dch]
  | .lineReset _ _ => [.due, .sc, .tbi, .pt, .hcu, .tsu, .stu, .cu, .fau, .tau, .ssq, .dch]
  | .supplyFailure _ _ => [.powered, .freeSeq, .tbi, .fau, .dch]
  | .frameReception _ | .lineIdle | .arbitrationLoss | .transmissionComplete => [.tbi]
  | .trip | .commandRequest | .commandGrant | .commandDecline | .commandSeize | .clearTrip | .ackAlarms
  | .holdStation | .releaseStation | .demand | .coupleMakeFast | .coupleRelease | .reply | .unknownClass
    => [.sc, .tbi, .hcu, .tsu, .stu, .cu, .tau, .dch]
  | .cap | .status => [.sc, .tbi, .pt, .hcu, .tsu, .stu, .cu, .tau, .dch]
  | .leg => [.sc, .tbi, .hcu, .tsu, .stu, .cu, .fau, .tau, .dch]
  | .account => [.sc, .tbi, .pt, .hcu, .tsu, .stu, .cu, .fau, .tau, .dch]
  | .commission => [.sc, .tbi, .hcu, .tsu, .stu, .cu, .fau, .tau, .ssq, .dch]
  | .queryCounters | .queryAlarms | .queryPeer | .queryLeg | .queryConvoyFuel | .queryCommission
    => [.freeSeq, .sc, .tbi, .hcu, .tsu, .stu, .cu, .tau, .dch]
  | .readbackError => [.tbi, .dch]
  | .muteTimerExpiry => [.now, .tbi, .dch]
  | .frameLifetimeExpiry _ => [.now, .tbi]
  | .reportTimerExpiry => [.now, .sc, .tbi]
  | .joinTimerExpiry => [.now, .sc, .tbi, .tsu, .stu, .cu, .tau, .dch]
  | .scanTrigger _ => [.now, .due, .tbi, .ssq]
  | .pulseEdge _ | .interruptedConversionEnd => [.ssq]
  | .conversionEnd _ _ => [.due, .ssq]
  | .hcuScanCompletion => [.freeSeq, .due, .tbi, .hcu, .dch]
  | .tsuScanCompletion => [.due, .tsu, .tau, .dch]
  | .stuScanCompletion => [.due, .stu, .dch]
  | .cuScanCompletion | .tauScanCompletion => [.due, .tbi, .tsu, .cu, .tau, .dch]
  | .fauScanCompletion => [.due, .fau, .tau]
  | .requestTimerExpiry | .helmLossTimerExpiry => [.now, .hcu]
  | .demandTimerExpiry => [.now, .tbi, .hcu]
  | .staleDeadline _ => [.now, .pt]
  | .lossDeadline _ => [.now, .pt, .hcu]
  | .rundownTimeout => [.now, .tsu, .tau, .dch]
  | .dwellExpiry | .settleExpiry => [.now, .tsu, .dch]
  | .jamTimerExpiry => [.now, .stu, .tau, .dch]
  | .steerStopActive => [.pins, .stu, .tau, .dch]
  | .steerStopInactive | .endStopInactive _ => [.pins]
  | .endStopActive _ => [.pins, .dch]
  | .takeupLimitExpiry _ => [.now, .tbi, .cu, .tau, .dch]
  | .renderLimitExpiry _ | .releaseTimeExpiry _ => [.now, .tbi, .cu, .dch]
  | .brakeDwellExpiry _ => [.now, .cu, .dch]
  | .capRepeatExpiry _ => [.now, .tbi, .cu]
  | .accountTimerExpiry => [.now, .tbi, .fau, .tau]
  | .tripRepeatExpiry => [.now, .tbi, .tau]
  | .periodBoundary | .deadTimeExpiry _ => [.now, .dch]

theorem execPowerOnReset_onlyChanges (stn : Station) (fit : Fitted) {s t : State}
    (h : execPowerOnReset stn fit s = .next t) : onlyChanges (changedBy (.powerOnReset stn fit)) s t := by
  cases h
  intro p hp
  cases p <;> simp_all [StatePart.same, changedBy]

theorem execLineReset_onlyChanges (stn : Station) (fit : Fitted) {s t : State}
    (h : execLineReset stn fit s = .next t) : onlyChanges (changedBy (.lineReset stn fit)) s t := by
  refine live_onlyChanges h fun p hp => ?_
  simp only
  split <;> cases p <;> simp_all [StatePart.same, changedBy, resetUnits]

theorem execSupplyFailure_onlyChanges (updating vbak : Bool) {s t : State}
    (h : execSupplyFailure updating vbak s = .next t) : onlyChanges (changedBy (.supplyFailure updating vbak)) s t := by
  cases h
  intro p hp
  split <;> cases p <;> simp_all [StatePart.same, changedBy]

/-- Every command keeps the parts outside its own list. -/
theorem exec_onlyChanges {c : Instr} {s t : State} (h : exec c s = .next t) : onlyChanges (changedBy c) s t := by
  cases c with
  | powerOnReset stn fit => exact execPowerOnReset_onlyChanges stn fit h
  | lineReset stn fit => exact execLineReset_onlyChanges stn fit h
  | frameReception bits => exact execFrameReception_onlyChanges bits h
  | trip => exact execTrip_onlyChanges h
  | cap => exact execCap_onlyChanges h
  | commandRequest => exact execCommandRequest_onlyChanges h
  | commandGrant => exact execCommandGrant_onlyChanges h
  | commandDecline => exact execCommandDecline_onlyChanges h
  | commandSeize => exact execCommandSeize_onlyChanges h
  | clearTrip => exact execClearTrip_onlyChanges h
  | ackAlarms => exact execAckAlarms_onlyChanges h
  | holdStation => exact execHoldStation_onlyChanges h
  | releaseStation => exact execReleaseStation_onlyChanges h
  | demand => exact execDemand_onlyChanges h
  | coupleMakeFast => exact execCoupleMakeFast_onlyChanges h
  | coupleRelease => exact execCoupleRelease_onlyChanges h
  | status => exact execStatus_onlyChanges h
  | leg => exact execLeg_onlyChanges h
  | account => exact execAccount_onlyChanges h
  | commission => exact execCommission_onlyChanges h
  | queryCounters => exact execQueryCounters_onlyChanges h
  | queryAlarms => exact execQueryAlarms_onlyChanges h
  | queryPeer => exact execQueryPeer_onlyChanges h
  | queryLeg => exact execQueryLeg_onlyChanges h
  | queryConvoyFuel => exact execQueryConvoyFuel_onlyChanges h
  | queryCommission => exact execQueryCommission_onlyChanges h
  | reply => exact execReply_onlyChanges h
  | unknownClass => exact execUnknownClass_onlyChanges h
  | lineIdle => exact execLineIdle_onlyChanges h
  | arbitrationLoss => exact execArbitrationLoss_onlyChanges h
  | readbackError => exact execReadbackError_onlyChanges h
  | transmissionComplete => exact execTransmissionComplete_onlyChanges h
  | muteTimerExpiry => exact execMuteTimerExpiry_onlyChanges h
  | frameLifetimeExpiry slot => exact execFrameLifetimeExpiry_onlyChanges slot h
  | reportTimerExpiry => exact execReportTimerExpiry_onlyChanges h
  | joinTimerExpiry => exact execJoinTimerExpiry_onlyChanges h
  | scanTrigger pins => exact execScanTrigger_onlyChanges pins h
  | pulseEdge input => exact execPulseEdge_onlyChanges input h
  | conversionEnd raw pins => exact execConversionEnd_onlyChanges raw pins h
  | interruptedConversionEnd => exact execInterruptedConversionEnd_onlyChanges h
  | hcuScanCompletion => exact execHcuScanCompletion_onlyChanges h
  | tsuScanCompletion => exact execTsuScanCompletion_onlyChanges h
  | stuScanCompletion => exact execStuScanCompletion_onlyChanges h
  | cuScanCompletion => exact execCuScanCompletion_onlyChanges h
  | fauScanCompletion => exact execFauScanCompletion_onlyChanges h
  | tauScanCompletion => exact execTauScanCompletion_onlyChanges h
  | requestTimerExpiry => exact execRequestTimerExpiry_onlyChanges h
  | demandTimerExpiry => exact execDemandTimerExpiry_onlyChanges h
  | helmLossTimerExpiry => exact execHelmLossTimerExpiry_onlyChanges h
  | staleDeadline n => exact execStaleDeadline_onlyChanges n h
  | lossDeadline n => exact execLossDeadline_onlyChanges n h
  | rundownTimeout => exact execRundownTimeout_onlyChanges h
  | dwellExpiry => exact execDwellExpiry_onlyChanges h
  | settleExpiry => exact execSettleExpiry_onlyChanges h
  | jamTimerExpiry => exact execJamTimerExpiry_onlyChanges h
  | steerStopActive => exact execSteerStopActive_onlyChanges h
  | steerStopInactive => exact execSteerStopInactive_onlyChanges h
  | endStopActive side => exact execEndStopActive_onlyChanges side h
  | endStopInactive side => exact execEndStopInactive_onlyChanges side h
  | takeupLimitExpiry w => exact execTakeupLimitExpiry_onlyChanges w h
  | renderLimitExpiry w => exact execRenderLimitExpiry_onlyChanges w h
  | releaseTimeExpiry w => exact execReleaseTimeExpiry_onlyChanges w h
  | brakeDwellExpiry w => exact execBrakeDwellExpiry_onlyChanges w h
  | capRepeatExpiry w => exact execCapRepeatExpiry_onlyChanges w h
  | accountTimerExpiry => exact execAccountTimerExpiry_onlyChanges h
  | tripRepeatExpiry => exact execTripRepeatExpiry_onlyChanges h
  | periodBoundary => exact execPeriodBoundary_onlyChanges h
  | deadTimeExpiry pair => exact execDeadTimeExpiry_onlyChanges pair h
  | supplyFailure updating vbak => exact execSupplyFailure_onlyChanges updating vbak h

/-! ### Every command answers -/

theorem exec_next (c : Instr) (s : State) : ∃ t, exec c s = .next t := by
  cases c <;> exact ⟨_, rfl⟩

theorem exec_pending {c : Instr} {s t : State} (h : exec c s = .next t) : t.pending = s.pending :=
  exec_onlyChanges h .pending (by cases c <;> simp [changedBy])

/-- An unpowered part takes a power-on reset and a supply failure only (log 23). -/
theorem exec_unpowered {c : Instr} {s : State} (hs : s.powered = false) (hp : ∀ n f, c ≠ .powerOnReset n f)
    (hf : ∀ u v, c ≠ .supplyFailure u v) : exec c s = .next s := by
  cases c with
  | powerOnReset stn fit => exact absurd rfl (hp stn fit)
  | supplyFailure u v => exact absurd rfl (hf u v)
  | _ => exact congrArg Host.Outcome.next (if_neg (by simp [hs]))

/-- Settles O1: the second equation of `step`. -/
theorem stepRunsFrontCommand : Obligations.StepRunsFrontCommand := by
  intro c rest s h
  rw [step, h]

/-- Settles O2: each part by its own rule above. -/
theorem everyCommandCompletes : Obligations.EveryCommandCompletes := by
  refine ⟨fun c s => ?_, fun s h => ?_, fun c s => exec_unpowered⟩
  · obtain ⟨t, ht⟩ := exec_next c s
    exact ⟨t, ht, exec_pending ht⟩
  · simp only [step, h, idle]

/-! ### Conditions that a step keeps -/

/-- A step is an idle microsecond, or the front command on the queue's rest. -/
theorem step_cases {s t : State} (h : step s = .next t) :
    (s.pending = [] ∧ t = idle s) ∨
      ∃ c rest, s.pending = c :: rest ∧ exec c { s with pending := rest } = .next t := by
  unfold step at h
  split at h
  next hnil => exact .inl ⟨hnil, by simpa using h.symm⟩
  next c rest hcons => exact .inr ⟨c, rest, hcons, h⟩

/-- A condition on the state that reads the listed parts alone. -/
def DependsOn (ps : List StatePart) (P : State → Prop) : Prop :=
  ∀ s t : State, (∀ p ∈ ps, p.same s t) → P s → P t

section
variable {ps : List StatePart} {P : State → Prop}

theorem DependsOn.of_onlyChanges {qs : List StatePart} {s t : State} (hP : DependsOn ps P) (h : onlyChanges qs s t)
    (hd : ∀ p ∈ ps, p ∉ qs) (hs : P s) : P t :=
  hP s t (fun p hp => h p (hd p hp)) hs

/-- What every command and an idle microsecond keep, every step keeps, if the queue takes no part in it. -/
theorem step_keeps (hqueue : ∀ s q, P s → P { s with pending := q }) (hidle : ∀ s, P s → P (idle s))
    (hexec : ∀ c s t, exec c s = .next t → P s → P t) {s t : State} (hs : P s) (h : step s = .next t) : P t := by
  obtain ⟨-, rfl⟩ | ⟨c, rest, -, hc⟩ := step_cases h
  · exact hidle s hs
  · exact hexec c _ t hc (hqueue s rest hs)

end

/-! ### The frame rows -/

/-- What the owner of an admitted frame does with it, for the commands of the frame rows. -/
def ownerOf : Instr → Frame → State → State
  | .trip => ownTrip
  | .cap => ownCap
  | .commandRequest => ownRequest
  | .commandGrant => ownGrant
  | .commandDecline => ownDecline
  | .commandSeize => ownSeize
  | .clearTrip => ownClearTrip
  | .ackAlarms => ownAck
  | .holdStation => ownHold
  | .releaseStation => ownRelease
  | .demand => ownDemand
  | .coupleMakeFast => ownCouple makeFast
  | .coupleRelease => ownCouple releaseFall
  | .status => ownStatus
  | .leg => ownLeg
  | .account => ownAccount
  | .commission => ownCommission
  | .queryCounters => ownQuery .counters
  | .queryAlarms => ownQuery .alarms
  | .queryPeer => ownQuery .peer
  | .queryLeg => ownQuery .leg
  | .queryConvoyFuel => ownQuery .convoyFuel
  | .queryCommission => ownQuery .commission
  | _ => fun _ s => s

/-- The commands of the frame rows. -/
def frameRows : List Instr :=
  [.trip, .cap, .commandRequest, .commandGrant, .commandDecline, .commandSeize, .clearTrip, .ackAlarms, .holdStation,
    .releaseStation, .demand, .coupleMakeFast, .coupleRelease, .status, .leg, .account, .commission, .queryCounters,
    .queryAlarms, .queryPeer, .queryLeg, .queryConvoyFuel, .queryCommission, .reply, .unknownClass]

/-- A frame row gives the oldest waiting frame to admission, and an admitted one to its owner. -/
theorem exec_frameRow {c : Instr} (hc : c ∈ frameRows) (s : State) :
    exec c s = live (takeFrame (frameFor c) (ownerOf c)) s := by
  simp only [frameRows, List.mem_cons, List.not_mem_nil, or_false] at hc
  rcases hc with rfl | rfl | rfl | rfl | rfl | rfl | rfl | rfl | rfl | rfl | rfl | rfl | rfl | rfl | rfl | rfl | rfl
    | rfl | rfl | rfl | rfl | rfl | rfl | rfl | rfl <;> rfl

/-- The command that takes a frame is one of the frame rows. -/
theorem mem_frameRows_of_frameFor {c : Instr} {f : Frame} (h : frameFor c f = true) : c ∈ frameRows := by
  cases c <;> first | exact absurd h Bool.false_ne_true | decide

/-- A command that takes the oldest waiting frame settles it by its judgement. -/
theorem exec_settles {c : Instr} {s : State} {f : Frame} (hp : s.powered = true) (hf : s.tbi.rxQueue.head? = some f)
    (hfits : frameFor c f = true) : exec c s = .next (settleFrame (judge s f) f (ownerOf c) (dequeue s)) := by
  rw [exec_frameRow (mem_frameRows_of_frameFor hfits)]
  simp [live, takeFrame, hp, hf, hfits]

/-- An admitted frame goes to its owner. -/
theorem exec_admitted {c : Instr} {s : State} {f : Frame} (h : admits s f) (hfits : frameFor c f = true) :
    exec c s = .next (ownerOf c f (taken s)) := by
  obtain ⟨hp, hf, hj⟩ := h
  rw [exec_settles hp hf hfits, hj]
  rfl

/-- A frame row changes nothing, or settles the oldest waiting frame. -/
theorem frameRow_cases {c : Instr} {s t : State} (hc : c ∈ frameRows) (h : exec c s = .next t) :
    t = s ∨ ∃ f, s.powered = true ∧ s.tbi.rxQueue.head? = some f ∧ frameFor c f = true
      ∧ t = settleFrame (judge s f) f (ownerOf c) (dequeue s) := by
  rw [exec_frameRow hc] at h
  have ht := live_next h
  split at ht
  next hp =>
    obtain hsame | ⟨f, rest, hq, hfits, hset⟩ := takeFrame_cases (frameFor c) (ownerOf c) s
    · exact .inl (ht.trans hsame)
    · exact .inr ⟨f, hp, by simp [hq], hfits, ht.trans hset⟩
  next => exact .inl ht

theorem joined_of_judge_duplicate {s : State} {f : Frame} (h : judge s f = .duplicate) :
    joined s.sc.station = true := by
  have hrow (r : Row) : judgeRow s f r ≠ .duplicate := by
    unfold judgeRow
    repeat' split
    all_goals nofun
  have hkind : unknownKind s f ≠ .duplicate := by
    unfold unknownKind
    split <;> nofun
  unfold judge at h
  repeat' split at h
  all_goals simp_all

/-- A condition that the bookkeeping of a frame row keeps: the queue, the counters, and the entry to SAFE at a duplicate. -/
structure KeptByRows (P : State → Prop) : Prop where
  dequeue : ∀ s, P s → P (dequeue s)
  count : ∀ c s, P s → P (count c s)
  refuse : ∀ f r s, P s → P (refuse f r s)
  duplicate : ∀ s, joined s.sc.station = true → P s → P (duplicateSeen s)

/-- A frame row keeps such a condition when its owner does with an admitted frame. -/
theorem KeptByRows.exec {P : State → Prop} (hP : KeptByRows P) {c : Instr} {s t : State} (hc : c ∈ frameRows)
    (howner : ∀ f, admits s f → frameFor c f = true → P (taken s) → P (ownerOf c f (taken s)))
    (h : exec c s = .next t) (hs : P s) : P t := by
  obtain rfl | ⟨f, hp, hf, hfits, rfl⟩ := frameRow_cases hc h
  · exact hs
  have hd := hP.dequeue s hs
  cases hj : judge s f with
  | duplicate => exact hP.duplicate _ (by simpa using joined_of_judge_duplicate hj) (hP.count _ _ hd)
  | ignored => exact hP.count _ _ hd
  | refused r => exact hP.refuse _ _ _ hd
  | defaultPath => exact hP.count _ _ hd
  | admitted => exact howner f ⟨hp, hf, hj⟩ hfits (hP.count _ _ hd)

/-! ### What admission has judged (R184, R185) -/

/-- The row of R185 that judges a frame: its class's, or its kind's if a COMMAND names one. -/
def rowOf (s : State) (f : Frame) : Option Row :=
  if f.cls = clsCommand then (commandKind f).map (kindRow s.sc.station) else some (classRow s f.cls)

/-- An admitted frame is not the station's own, has a row, and meets its four conditions. -/
theorem judge_admitted {s : State} {f : Frame} (h : judge s f = .admitted) :
    ¬ (validStation s.sc.number = true ∧ f.sender = s.sc.number)
      ∧ ∃ r, rowOf s f = some r ∧ senderAllowed r.senders f.sender = true ∧ r.here = true
        ∧ recordMeets (peer s f.sender) r.need = true ∧ fieldsOk f = true := by
  have hrow {r : Row} (hr : judgeRow s f r = .admitted) : senderAllowed r.senders f.sender = true ∧ r.here = true
      ∧ recordMeets (peer s f.sender) r.need = true ∧ fieldsOk f = true := by
    unfold judgeRow at hr
    repeat' split at hr
    all_goals simp_all
  have hkind : unknownKind s f ≠ .admitted := by
    unfold unknownKind
    split <;> nofun
  unfold judge at h
  split at h
  · split at h <;> cases h
  next hown =>
    refine ⟨by simpa using hown, ?_⟩
    split at h
    · cases h
    split at h
    next hcls =>
      rw [beq_iff_eq] at hcls
      split at h
      next k hk => exact ⟨_, by rw [rowOf, if_pos hcls, hk]; rfl, hrow h⟩
      next => exact absurd h hkind
    next hcls =>
      rw [beq_iff_eq] at hcls
      exact ⟨_, by rw [rowOf, if_neg hcls], hrow h⟩

theorem rowOf_class {s : State} {f : Frame} {c : BitVec 4} (h : ofClass c f = true) (hc : c ≠ clsCommand) :
    rowOf s f = some (classRow s c) := by
  rw [ofClass, beq_iff_eq] at h
  rw [rowOf, h, if_neg hc]

/-- A COMMAND that a kind's command takes and that has a row is of that kind. -/
theorem rowOf_kind {s : State} {f : Frame} {k : Kind} {r : Row} (h : ofKind k f = true) (hr : rowOf s f = some r) :
    r = kindRow s.sc.station k := by
  simp only [ofKind, Bool.and_eq_true, Bool.or_eq_true, beq_iff_eq] at h
  obtain ⟨hcls, hk | hk⟩ := h
  · rw [rowOf, if_pos hcls, hk] at hr
    exact (Option.some.inj hr).symm
  · rw [rowOf, if_pos hcls, hk] at hr
    cases hr

section
variable {s : State} {f : Frame}

/-- HOLD_STATION is admitted in RUN only (R185). -/
theorem station_of_admitted_hold (h : judge s f = .admitted) (hf : ofKind .holdStation f = true) :
    s.sc.station = .run := by
  obtain ⟨-, r, hr, -, hhere, -⟩ := judge_admitted h
  rw [rowOf_kind hf hr] at hhere
  simpa [kindRow] using hhere

/-- COMMISSION is admitted in LISTEN only (R185). -/
theorem station_of_admitted_commission (h : judge s f = .admitted) (hf : ofClass clsCommission f = true) :
    s.sc.station = .listen := by
  obtain ⟨-, r, hr, -, hhere, -⟩ := judge_admitted h
  rw [rowOf_class hf (by decide), Option.some.injEq] at hr
  subst hr
  simpa [classRow, clsCommission] using hhere

/-- COUPLE is admitted in RUN and HOLD only (R185). -/
theorem working_of_admitted_couple (h : judge s f = .admitted) {n : Nat} (hf : ofAction n f = true) :
    working s.sc.station = true := by
  obtain ⟨-, r, hr, -, hhere, -⟩ := judge_admitted h
  have hcls : ofClass clsCouple f = true := by
    simp only [ofAction, Bool.and_eq_true] at hf
    exact hf.1
  rw [rowOf_class hcls (by decide), Option.some.injEq] at hr
  subst hr
  simpa [classRow, clsCouple] using hhere

end

/-! ### Station control under the commands -/

theorem enterJoining_sc (s : State) :
    (enterJoining s).sc =
      { s.sc with
        station := .joining, joinTimer := some (s.now + ms (3 * (cfg1 s).period * 100))
        reportTimer := some (s.now + ms (s.sc.number.toNat * ((cfg1 s).period * 100) / 32)) } := by
  simp [enterJoining, startJoining]

theorem enterRun_sc (s : State) : (enterRun s).sc = { s.sc with station := .run } := by simp [enterRun, setStation]

theorem enterHold_sc (s : State) : (enterHold s).sc = { s.sc with station := .hold } := by simp [enterHold, setStation]

theorem leaveHold_sc (s : State) : (leaveHold s).sc = { s.sc with station := .run } := by simp [leaveHold, setStation]

/-- What SC's other work leaves of the station: its state, its straps and the join timer. -/
structure SameStation (c d : Sc) : Prop where
  station : d.station = c.station
  number : d.number = c.number
  fitted : d.fitted = c.fitted
  joinTimer : d.joinTimer = c.joinTimer

theorem SameStation.refl (c : Sc) : SameStation c c := ⟨rfl, rfl, rfl, rfl⟩

theorem SameStation.of_eq {c d : Sc} (h : d = c) : SameStation c d := h ▸ .refl d

theorem SameStation.trans {c d e : Sc} (h : SameStation c d) (h' : SameStation d e) : SameStation c e :=
  ⟨h'.station.trans h.station, h'.number.trans h.number, h'.fitted.trans h.fitted, h'.joinTimer.trans h.joinTimer⟩

theorem writeBlock_sameStation (c : Sc) (b : Block) : SameStation c (unstage b (writeBlock c b)) := by
  cases b <;> exact ⟨rfl, rfl, rfl, rfl⟩

/-- What a COMMISSION comes to: SC's record and TBI's alone change and the station stays as it is, or the station enters
JOINING with such a record (R200). -/
def Commissioned (s t : State) : Prop :=
  (∃ c x, SameStation s.sc c ∧ t = { s with sc := c, tbi := x })
    ∨ ∃ c, SameStation s.sc c ∧ t = enterJoining { s with sc := c }

theorem refuseBlock_commissioned (f : Frame) (b : Option Block) (r : Reason) (s : State) :
    Commissioned s (refuseBlock f b r s) := .inl ⟨(refuseBlock f b r s).sc, _, ⟨rfl, rfl, rfl, rfl⟩, rfl⟩

theorem acceptBlock_commissioned (b : Block) (s : State) : Commissioned s (acceptBlock b s) := by
  obtain ⟨hst, hno, hfit, hjoin⟩ := writeBlock_sameStation s.sc b
  simp only [acceptBlock]
  split
  · exact .inr ⟨{ unstage b (writeBlock s.sc b) with lock := true }, ⟨hst, hno, hfit, hjoin⟩, rfl⟩
  · exact .inl ⟨_, s.tbi, ⟨hst, hno, hfit, hjoin⟩, rfl⟩

theorem checkBlock_commissioned (f : Frame) (b : Block) (s : State) : Commissioned s (checkBlock f b s) := by
  unfold checkBlock
  repeat' split
  next r _ => exact .inl ⟨(onSc (unstage b) (refuseBlock f (some b) r s)).sc, _, ⟨rfl, rfl, rfl, rfl⟩, rfl⟩
  · exact acceptBlock_commissioned b s
  · exact .inl ⟨_, _, .refl _, rfl⟩

theorem Commissioned.of_onSc {f : Sc → Sc} {s t : State} (hf : SameStation s.sc (f s.sc))
    (h : Commissioned (onSc f s) t) : Commissioned s t := by
  obtain ⟨c, x, hc, rfl⟩ | ⟨c, hc, rfl⟩ := h
  · exact .inl ⟨c, x, hf.trans hc, rfl⟩
  · exact .inr ⟨c, hf.trans hc, rfl⟩

theorem takePart_commissioned (f : Frame) (b : Block) (s : State) : Commissioned s (takePart f b s) := by
  simp only [takePart]
  repeat' split
  · exact .inl ⟨_, _, .refl _, rfl⟩
  · exact refuseBlock_commissioned ..
  · exact refuseBlock_commissioned ..
  · exact .of_onSc ⟨rfl, rfl, rfl, rfl⟩ (checkBlock_commissioned f b _)

theorem ownCommission_commissioned (f : Frame) (s : State) : Commissioned s (ownCommission f s) := by
  unfold ownCommission
  repeat' split
  · exact refuseBlock_commissioned ..
  · exact refuseBlock_commissioned ..
  · exact refuseBlock_commissioned ..
  · exact takePart_commissioned f _ s

/-- The owners that leave SC's record as it is. -/
theorem ownerOf_sc {c : Instr} (hc : c ∉ [Instr.holdStation, .releaseStation, .commission]) (f : Frame) (s : State) :
    (ownerOf c f s).sc = s.sc := by
  cases c with
  | holdStation | releaseStation | commission => exact absurd (by decide) hc
  | coupleMakeFast | coupleRelease =>
    simp only [ownerOf, ownCouple]
    repeat' split
    all_goals simp
  | _ => simp [ownerOf]

/-- The commands outside the frame rows that leave the station's state, straps and join timer. -/
theorem exec_sameStation {c : Instr} {s t : State} (hrow : c ∉ frameRows) (hreset : ∀ n f, c ≠ .powerOnReset n f)
    (hline : ∀ n f, c ≠ .lineReset n f) (hjoin : c ≠ .joinTimerExpiry) (h : exec c s = .next t) :
    SameStation s.sc t.sc := by
  by_cases hc : StatePart.sc ∈ changedBy c
  · cases c with
    | powerOnReset n f => exact absurd rfl (hreset n f)
    | lineReset n f => exact absurd rfl (hline n f)
    | joinTimerExpiry => exact absurd rfl hjoin
    | reportTimerExpiry =>
      rw [live_next h]
      split
      · unfold atExpiry
        split <;> exact ⟨rfl, rfl, rfl, rfl⟩
      · exact .refl _
    | _ => first | exact absurd (by decide) hrow | simp [changedBy] at hc
  · exact .of_eq (exec_onlyChanges h .sc hc)

/-! ### The two resets -/

/-- The units after a line reset, before any entry to JOINING (R204). -/
def lineResetUnits (stn : Station) (fit : Fitted) (s : State) : State :=
  resetUnits (scLineReset stn fit s.sc) (fauReset s.fau.kept s.fau.check) tauReset (ssqReset (scanLineReset s.ssq.scan))
    s.now s

/-- The part after a power-on reset (R204). -/
def powerOnUnits (stn : Station) (fit : Fitted) (s : State) : State :=
  resetUnits (scReset stn fit) (fauPor fit.engine s.fau) (tauPor fit.engine s.fau) (ssqReset .stopped) 0
    { s with powered := true }

theorem exec_powerOnReset (stn : Station) (fit : Fitted) (s : State) :
    exec (.powerOnReset stn fit) s = .next (powerOnUnits stn fit s) := rfl

/-- A line reset of a powered part ends in LISTEN, or enters JOINING at once (R201). -/
theorem exec_lineReset (stn : Station) (fit : Fitted) (s : State) :
    exec (.lineReset stn fit) s =
      live (fun s =>
        if joinsAtOnce (lineResetUnits stn fit s).sc then enterJoining (lineResetUnits stn fit s)
        else lineResetUnits stn fit s) s := rfl

/-- What a line reset keeps: nothing is done, or the reset's state is left as it is or enters JOINING. -/
theorem lineReset_cases {stn : Station} {fit : Fitted} {s t : State} (h : exec (.lineReset stn fit) s = .next t) :
    t = s ∨ t = lineResetUnits stn fit s
      ∨ (joinsAtOnce (lineResetUnits stn fit s).sc = true ∧ t = enterJoining (lineResetUnits stn fit s)) := by
  rw [exec_lineReset] at h
  have ht := live_next h
  repeat' split at ht
  next hjoin => exact .inr (.inr ⟨hjoin, ht⟩)
  · exact .inr (.inl ht)
  · exact .inl ht

/-- The part after a supply failure (R133). -/
theorem exec_supplyFailure (updating vbak : Bool) (s : State) :
    exec (.supplyFailure updating vbak) s =
      .next
        { (if losesRetention s updating vbak then loseRetention s else s) with
          powered := false, dch := restDch s.dch, tbi := { s.tbi with inflight := none } } := by
  have hdch : (if losesRetention s updating vbak then loseRetention s else s).dch = s.dch := by split <;> rfl
  have htbi : (if losesRetention s updating vbak then loseRetention s else s).tbi = s.tbi := by split <;> rfl
  rw [← hdch, ← htbi]
  rfl

/-- The work of a command at an expiry: nothing is done, or its timer runs and the work is done at the timer's end. -/
theorem expiry_cases {timer : Option Nat} {f : Nat → State → State} {s t : State}
    (h : t = if s.powered then atExpiry timer f s else s) :
    t = s ∨ ∃ n, timer = some n ∧ s.powered = true ∧ t = f n (reach n s) := by
  split at h
  next hp =>
    obtain ⟨-, hsame⟩ | ⟨n, hn, hend⟩ := atExpiry_cases timer f s
    · exact .inl (h.trans hsame)
    · exact .inr ⟨n, hn, hp, h.trans hend⟩
  · exact .inl h

/-! ### The straps under the commands -/

/-- Only a reset reads the straps: every other command keeps the number and the fitted mask (R194). -/
theorem exec_straps {c : Instr} {s t : State} (hreset : ∀ n f, c ≠ .powerOnReset n f)
    (hline : ∀ n f, c ≠ .lineReset n f) (h : exec c s = .next t) :
    t.sc.number = s.sc.number ∧ t.sc.fitted = s.sc.fitted := by
  by_cases hrow : c ∈ frameRows
  · have hkept : KeptByRows fun u => u.sc.number = s.sc.number ∧ u.sc.fitted = s.sc.fitted :=
      ⟨fun _ h => h, fun _ _ h => h, fun _ _ _ h => h, fun _ _ h => h⟩
    refine hkept.exec hrow (fun f _ _ hu => ?_) h ⟨rfl, rfl⟩
    by_cases hc : c ∈ [Instr.holdStation, .releaseStation, .commission]
    · simp only [List.mem_cons, List.not_mem_nil, or_false] at hc
      obtain rfl | rfl | rfl := hc
      · simp only [ownerOf, ownHold]
        repeat' split
        · exact hu
        · exact hu
        · rw [enterHold_sc]; exact hu
      · simp only [ownerOf, ownRelease]
        repeat' split
        · exact hu
        · rw [leaveHold_sc]; exact hu
        · exact hu
      · obtain ⟨c, x, hc, ht⟩ | ⟨c, hc, ht⟩ := ownCommission_commissioned f (taken s)
        · rw [ownerOf, ht]
          exact ⟨hc.number.trans hu.1, hc.fitted.trans hu.2⟩
        · rw [ownerOf, ht, enterJoining_sc]
          exact ⟨hc.number.trans hu.1, hc.fitted.trans hu.2⟩
    · rw [ownerOf_sc hc]
      exact hu
  · by_cases hjoin : c = .joinTimerExpiry
    · subst hjoin
      obtain rfl | ⟨d, -, -, rfl⟩ := expiry_cases (live_next h)
      · exact ⟨rfl, rfl⟩
      · rw [enterRun_sc]
        exact ⟨rfl, rfl⟩
    · have hsc := exec_sameStation hrow hreset hline hjoin h
      exact ⟨hsc.number, hsc.fitted⟩

end Sys2Proof.Machine
end

section
/-! PROOFS. The drives and the line under the commands. A pair, its brake and TBI's record each have one condition; the units'
operations are shown once to keep them (`Works`), and so are all commands that work through them. -/

namespace Sys2Proof.Machine

open Sys2Proof

/-! ### One pair and one brake -/

/-- The duties of a pair within 0..1000 (R163, R164). -/
def pairBounded (p : Pair) : Prop := p.req1 ≤ 1000 ∧ p.req2 ≤ 1000 ∧ p.app1 ≤ 1000 ∧ p.app2 ≤ 1000

/-- A pair that drives has its brake line on (R169). -/
def brakeSound (p : Pair) (b : Brake) : Prop := activeSide p ≠ none → b.line = true

/-- A pair with one output at most, duties in range, that drives with its brake line on only. -/
def pairSound (p : Pair) (b : Brake) : Prop := pairExclusive p ∧ pairBounded p ∧ brakeSound p b

theorem activeSide_eq_none {p : Pair} : activeSide p = none ↔ p.app1 = 0 ∧ p.app2 = 0 := by
  unfold activeSide
  split_ifs <;> simp_all

theorem clampDuty_le (n : Nat) : clampDuty n ≤ 1000 := min_le_left _ _

section
variable {p : Pair} {b : Brake}

theorem pairSound.requested (r1 r2 : Nat) (h : pairSound p b) :
    pairSound { p with req1 := clampDuty r1, req2 := clampDuty r2 } b := by
  obtain ⟨hx, ⟨-, -, h1, h2⟩, hb⟩ := h
  exact ⟨hx, ⟨clampDuty_le r1, clampDuty_le r2, h1, h2⟩, hb⟩

/-- A brake request leaves the line on where the pair drives (R169). -/
theorem pairSound.braked (r : BrakeReq) (h : pairSound p b) : pairSound p (brakeStep r p b) := by
  obtain ⟨hx, hd, hb⟩ := h
  refine ⟨hx, hd, fun ha => ?_⟩
  cases r with
  | release => rfl
  | engage => simp [brakeStep, ha, hb ha]

/-- A pair at rest is sound whatever its brake. -/
theorem pairSound_of_rest (h1 : p.app1 = 0) (h2 : p.app2 = 0) (hr1 : p.req1 ≤ 1000) (hr2 : p.req2 ≤ 1000) :
    pairSound p b :=
  ⟨.inl h1, ⟨hr1, hr2, by omega, by omega⟩, fun h => absurd (activeSide_eq_none.2 ⟨h1, h2⟩) h⟩

theorem pairSound.stopped (dead : Nat) (a : Side) (b' : Brake) (h : pairSound p b) :
    pairSound (stopPair dead a p) b' := by
  obtain ⟨-, ⟨hr1, hr2, -⟩, -⟩ := h
  exact pairSound_of_rest rfl rfl hr1 hr2

theorem pairSound.cut (dead : Nat) (a : Side) (h : pairSound p b) : pairSound (cutSide dead a p) b := by
  unfold cutSide
  split
  · exact h.stopped dead a b
  · exact h

theorem pairSound.driven (a : Side) {d : Nat} (hd : d ≤ 1000) (hline : b.line = true) (h : pairSound p b) :
    pairSound (driveSide a d p) b := by
  obtain ⟨-, ⟨hr1, hr2, -⟩, -⟩ := h
  cases a with
  | one => exact ⟨.inr rfl, ⟨hr1, hr2, hd, Nat.zero_le _⟩, fun _ => hline⟩
  | two => exact ⟨.inl rfl, ⟨hr1, hr2, Nat.zero_le _, hd⟩, fun _ => hline⟩

/-- A boundary takes a request in range, of a pair whose brake line is on (R165, R166). -/
theorem pairSound.atBoundary (dead : Nat) {req : Option (Side × Nat)}
    (hreq : ∀ a d, req = some (a, d) → d ≤ 1000 ∧ b.line = true) (h : pairSound p b) :
    pairSound (boundaryPair dead req p) b := by
  unfold boundaryPair
  split
  · exact h.stopped dead _ b
  · split
    · exact h.driven _ (hreq _ _ rfl).1 (hreq _ _ rfl).2
    · exact h.stopped dead _ b
  · exact h
  · split
    · exact h.driven _ (hreq _ _ rfl).1 (hreq _ _ rfl).2
    · exact h

/-- A pending engagement leaves the line on where the pair drives (R169). -/
theorem pairSound.brakeAtBoundary (h : pairSound p b) : pairSound p (boundaryBrake p b) := by
  obtain ⟨hx, hd, hb⟩ := h
  refine ⟨hx, hd, fun ha => ?_⟩
  have hsome : (activeSide p).isNone = false := by simpa [Option.isSome_iff_ne_none] using ha
  simp [boundaryBrake, hsome, hb ha]

end

theorem sideRequest_le {r1 r2 d : Nat} {a : Side} (h1 : r1 ≤ 1000) (h2 : r2 ≤ 1000)
    (h : sideRequest r1 r2 = some (a, d)) : d ≤ 1000 := by
  unfold sideRequest at h
  split_ifs at h <;> simp_all

/-! ### The drive conditions on a state -/

/-- The rudder pair has no brake: one whose line is on takes its place. -/
def noBrake : Brake := ⟨true, false⟩

/-- The drive conditions of DCH at a moment: one output of a pair, duties in range, the latest boundary not ahead, the
brakes interlocked (R163 to R165, R169). -/
structure DchSound (d : Dch) (now : Nat) : Prop where
  gov : d.gov.req ≤ 1000 ∧ d.gov.app ≤ 1000
  rud : pairSound d.rud noBrake
  wa : pairSound d.wa d.brakeA
  wb : pairSound d.wb d.brakeB
  boundary : 1000 ≤ d.boundaryAt ∧ d.boundaryAt ≤ now + 1000

/-- The conditions of O55 on DCH's record are these. -/
theorem dchSound_iff (s : State) :
    DchSound s.dch s.now ↔ pairsExclusive s ∧ drivesBounded s ∧ brakesInterlocked s := by
  constructor
  · rintro ⟨⟨hg1, hg2⟩, ⟨hr, hrb, -⟩, ⟨ha, hab, hai⟩, ⟨hb, hbb, hbi⟩, hlo, hhi⟩
    refine ⟨⟨hr, ha, hb⟩, ⟨hg1, hg2, fun i => ?_, hlo, hhi⟩, fun w => ?_⟩
    · cases i
      exacts [hrb, hab, hbb]
    · cases w
      exacts [hai, hbi]
  · rintro ⟨⟨hr, ha, hb⟩, ⟨hg1, hg2, hpairs, hlo, hhi⟩, hbrakes⟩
    exact ⟨⟨hg1, hg2⟩, ⟨hr, hpairs .rudder, fun _ => rfl⟩, ⟨ha, hpairs .winchA, hbrakes .a⟩,
      ⟨hb, hpairs .winchB, hbrakes .b⟩, hlo, hhi⟩

section
variable {d : Dch} {now : Nat}

theorem DchSound.later {now' : Nat} (hle : now ≤ now') (h : DchSound d now) : DchSound d now' :=
  { h with boundary := ⟨h.boundary.1, h.boundary.2.trans (by omega)⟩ }

theorem DchSound.requestPair (i : PairId) (r1 r2 : Nat) (h : DchSound d now) :
    DchSound (requestPair i r1 r2 d) now := by
  cases i with
  | rudder => exact { h with rud := h.rud.requested r1 r2 }
  | winchA => exact { h with wa := h.wa.requested r1 r2 }
  | winchB => exact { h with wb := h.wb.requested r1 r2 }

theorem DchSound.requestBrake (w : WinchId) (r : BrakeReq) (h : DchSound d now) :
    DchSound (requestBrake w r d) now := by
  cases w with
  | a => exact { h with wa := h.wa.braked r }
  | b => exact { h with wb := h.wb.braked r }

/-- Every output at rest (R172). -/
theorem DchSound.rest (h : DchSound d now) : DchSound (restDch d) now :=
  have hpair (p : Pair) (b : Brake) : pairSound (restPair p) b :=
    pairSound_of_rest rfl rfl (Nat.zero_le _) (Nat.zero_le _)
  ⟨⟨Nat.zero_le _, Nat.zero_le _⟩, hpair _ _, hpair _ _, hpair _ _, h.boundary⟩

theorem dchSound_reset (fault : Bool) (now : Nat) : DchSound (dchReset fault now) now :=
  have hpair (b : Brake) : pairSound pairReset b := pairSound_of_rest rfl rfl (Nat.zero_le _) (Nat.zero_le _)
  ⟨⟨Nat.zero_le _, Nat.zero_le _⟩, hpair _, hpair _, hpair _, Nat.le_add_left _ _, le_rfl⟩

end

/-- A winch's request at a boundary is in range, and asked for with its brake line on only (R169). -/
theorem winchRequest_sound {s : State} {w : WinchId} (hb : pairBounded (pairOf s.dch (winchPair w))) {a : Side} {d : Nat}
    (h : winchRequest s w = some (a, d)) : d ≤ 1000 ∧ (brakeOf s.dch w).line = true := by
  obtain ⟨h1, h2, -⟩ := hb
  unfold winchRequest at h
  simp only at h
  split at h
  · cases h
  next hgo =>
    simp only [Bool.or_eq_true, not_or, Bool.not_eq_true', Bool.not_eq_true, Bool.not_eq_false] at hgo
    exact ⟨sideRequest_le h1 h2 h, hgo.1.2⟩

theorem rudderRequest_sound {s : State} (hb : pairBounded s.dch.rud) {a : Side} {d : Nat}
    (h : rudderRequest s = some (a, d)) : d ≤ 1000 := by
  obtain ⟨h1, h2, -⟩ := hb
  unfold rudderRequest at h
  split at h
  · cases h
  · exact sideRequest_le (by split <;> omega) (by split <;> omega) h

/-- A period boundary keeps the drive conditions (R164 to R169). -/
theorem DchSound.boundaryDch {s : State} {t now : Nat} (ht : t ≤ now) (h : DchSound s.dch s.now) :
    DchSound (boundaryDch t s) now := by
  obtain ⟨⟨hreq, -⟩, hr, ha, hb, -⟩ := h
  refine ⟨⟨hreq, ?_⟩, ?_, ?_, ?_, Nat.le_add_left _ _, Nat.add_le_add_right ht _⟩
  · simp only [Machine.boundaryDch, boundaryGov]
    split <;> omega
  · exact hr.atBoundary _ fun a d hd => ⟨rudderRequest_sound hr.2.1 hd, rfl⟩
  · exact (ha.atBoundary _ fun a d hd => winchRequest_sound (w := .a) ha.2.1 hd).brakeAtBoundary
  · exact (hb.atBoundary _ fun a d hd => winchRequest_sound (w := .b) hb.2.1 hd).brakeAtBoundary

/-! ### The counters and queues of TBI -/

theorem counterList_bump_le {c : Counter} {k : Counters} (h : ∀ n ∈ counterList k, n ≤ 65535) :
    ∀ n ∈ counterList (bump c k), n ≤ 65535 := by
  simp only [counterList, List.forall_mem_cons, List.not_mem_nil, false_implies, implies_true, and_true] at h ⊢
  cases c <;> simp only [bump, saturated] <;> omega

/-- TBI's record with its counters in range, its queues within their depth, and its abort count and frame in flight as the
line state allows (R178, R180, R181, R183, R191). -/
structure TbiSound (t : Tbi) : Prop where
  counters : ∀ n ∈ counterList t.counters, n ≤ 65535
  replies : t.replies.length ≤ 4
  rxQueue : t.rxQueue.length ≤ 4
  aborts : t.aborts ≤ 8
  full : t.aborts = 8 → t.line ≠ .active
  flying : t.inflight.isSome = true → t.line = .active

/-- The conditions of O58 on TBI's record are these. -/
theorem tbiSound_iff (s : State) : TbiSound s.tbi ↔ countersBounded s ∧ lineConsistent s :=
  ⟨fun ⟨hc, hr, hx, ha, hf, hi⟩ => ⟨hc, hr, hx, ha, hf, hi⟩, fun ⟨hc, hr, hx, ha, hf, hi⟩ => ⟨hc, hr, hx, ha, hf, hi⟩⟩

section
variable {t : Tbi}

theorem TbiSound.bump (c : Counter) (h : TbiSound t) : TbiSound { t with counters := bump c t.counters } :=
  { h with counters := counterList_bump_le h.counters }

theorem TbiSound.queueTbi (k : TxSlot) (f : Frame) (lifeEnd : Nat) (h : TbiSound t) :
    TbiSound (queueTbi k f lifeEnd t) := by
  obtain ⟨hc, hr, hx, ha, hf, hi⟩ := h
  refine ⟨?_, hr, hx, ha, hf, by simpa [Machine.queueTbi] using hi⟩
  simp only [Machine.queueTbi]
  split
  · exact counterList_bump_le hc
  · exact hc

theorem TbiSound.withdrawDemand (h : TbiSound t) : TbiSound (withdrawDemand t) := by
  obtain ⟨hc, hr, hx, ha, hf, hi⟩ := h
  exact ⟨hc, hr, hx, ha, hf, by simpa [Machine.withdrawDemand] using hi⟩

end

/-! ### What the work of the units does to the line and the drives -/

/-- The gear request is the one that TSU's gear gives (R54, R170). -/
def gearInStep (s : State) : Prop := s.dch.gearReq = gearOutput s.tsu.gear

/-- What the units' own work leaves of the line and the drives: the line state and FAULT's request stay, TBI's record and
the drives keep their conditions, and the gear request stays in step with the gear. -/
structure Works (s t : State) : Prop where
  line : t.tbi.line = s.tbi.line
  fault : t.dch.faultReq = s.dch.faultReq
  tbi : TbiSound s.tbi → TbiSound t.tbi
  drive : DchSound s.dch s.now → DchSound t.dch t.now
  gear : gearInStep s → gearInStep t

namespace Works

theorem refl (s : State) : Works s s := ⟨rfl, rfl, id, id, id⟩

theorem trans {s t u : State} (h : Works s t) (h' : Works t u) : Works s u :=
  ⟨h'.line.trans h.line, h'.fault.trans h.fault, h'.tbi ∘ h.tbi, h'.drive ∘ h.drive, h'.gear ∘ h.gear⟩

/-- Work that leaves the line and the drives as they are. -/
theorem of_same {s t : State} (htbi : t.tbi = s.tbi) (hdch : t.dch = s.dch) (htsu : t.tsu = s.tsu)
    (hnow : s.now ≤ t.now) : Works s t :=
  ⟨by rw [htbi], by rw [hdch], by rw [htbi]; exact id, by rw [hdch]; exact DchSound.later hnow,
    by unfold gearInStep; rw [hdch, htsu]; exact id⟩

end Works

theorem reach_works (n : Nat) (s : State) : Works s (reach n s) :=
  .of_same (by simp) (by simp) (by simp) (le_max_left _ _)

theorem count_works (c : Counter) (s : State) : Works s (count c s) := ⟨rfl, rfl, .bump c, id, id⟩

theorem refuse_works (f : Frame) (r : Reason) (s : State) : Works s (refuse f r s) :=
  ⟨rfl, rfl, fun h => { h.bump .refused with }, id, id⟩

theorem queueFrame_works (k : TxSlot) (c : BitVec 4) (p : List Byte) (n : Nat) (s : State) :
    Works s (queueFrame k c p n s) := ⟨rfl, rfl, .queueTbi _ _ _, id, id⟩

theorem onLatched_works (f : Latched → Latched) (s : State) : Works s (onLatched f s) := .of_same rfl rfl rfl le_rfl

theorem onWinch_works (w : WinchId) (f : Winch → Winch) (s : State) : Works s (onWinch w f s) := .of_same rfl rfl rfl le_rfl

theorem onHcu_works (f : Hcu → Hcu) (s : State) : Works s (onHcu f s) := .of_same rfl rfl rfl le_rfl

theorem requestPair_works (i : PairId) (r1 r2 : Nat) (s : State) :
    Works s { s with dch := requestPair i r1 r2 s.dch } :=
  ⟨rfl, by cases i <;> rfl, id, .requestPair i r1 r2, by cases i <;> exact id⟩

/-- A winch's requests at the start and the end of an operation: its drive off, its brake as given (R98, R99). -/
theorem winchRequests_works (w : WinchId) (r : BrakeReq) (s : State) :
    Works s { s with dch := requestBrake w r (requestPair (winchPair w) 0 0 s.dch) } :=
  ⟨rfl, by cases w <;> rfl, id, fun h => (h.requestPair _ 0 0).requestBrake w r,
    by cases w <;> exact id⟩

/-! ### TSU and STU -/

theorem commitTsu_works (x : Tsu) (s : State) : Works s (commitTsu x s) :=
  ⟨rfl, rfl, id, fun h => { h with gov := ⟨clampDuty_le _, h.gov.2⟩ }, fun _ => rfl⟩

theorem tsuScan_works (n : Nat) (s : State) : Works s (tsuScan n s) := by
  unfold tsuScan
  split
  · exact (commitTsu_works _ s).trans (onLatched_works _ _)
  · exact (commitTsu_works _ s).trans (onLatched_works _ _)
  · exact commitTsu_works _ s
  · exact .refl s
  · exact .refl s

theorem tsuChange_works (s : State) : Works s (tsuChange s) := by
  unfold tsuChange
  split
  · exact commitTsu_works _ s
  · exact .refl s

theorem tsuTrip_works (s : State) : Works s (tsuTrip s) := by
  unfold tsuTrip
  split
  · exact commitTsu_works _ s
  · exact .refl s

theorem commitStu_works (x : Stu) (s : State) : Works s (commitStu x s) :=
  ⟨rfl, rfl, id, .requestPair .rudder _ _, id⟩

theorem stuScan_works (m : SampleSet) (s : State) : Works s (stuScan m s) := by
  unfold stuScan
  split
  · exact commitStu_works _ s
  · exact .refl s

theorem stuChange_works (s : State) : Works s (stuChange s) := by
  unfold stuChange
  split
  · exact (commitStu_works _ s).trans (onLatched_works _ _)
  · exact .refl s

theorem stuAckJam_works (s : State) : Works s (stuAckJam s) := by
  unfold stuAckJam
  split
  · exact commitStu_works _ s
  · exact .refl s

theorem cutRudder_works (s : State) : Works s (cutRudder s) :=
  ⟨rfl, rfl, id, fun h => { h with rud := (h.rud.cut _ _).cut _ _ }, id⟩

theorem stuStop_works (s : State) : Works s (stuStop s) := by
  unfold stuStop
  split
  · refine .trans ?_ (onLatched_works _ _)
    split
    all_goals first | exact commitStu_works _ s | exact .refl s
  · exact .refl s

/-! ### CU and the trip latch -/

theorem sendCap_works (w : WinchId) (c : Option Nat) (s : State) : Works s (sendCap w c s) :=
  (onWinch_works w _ s).trans (queueFrame_works _ _ _ _ _)

theorem recap_works (w : WinchId) (s : State) : Works s (recap w s) := by
  simp only [recap]
  split
  · exact (onWinch_works w _ s).trans (sendCap_works w _ _)
  · exact onWinch_works w _ s

theorem endOp_works (w : WinchId) (s : State) : Works s (endOp w s) :=
  (onWinch_works w _ s).trans (winchRequests_works w .engage _)

theorem enterWinch_works (w : WinchId) (x : WinchState) (b : Bool) (s : State) : Works s (enterWinch w x b s) :=
  (onWinch_works w _ s).trans (recap_works w _)

theorem finishOp_works (w : WinchId) (x : WinchState) (b : Bool) (s : State) : Works s (finishOp w x b s) :=
  (endOp_works w s).trans (enterWinch_works w x b _)

theorem beginOp_works (w : WinchId) (x : WinchState) (n : Nat) (s : State) : Works s (beginOp w x n s) :=
  ((onWinch_works w _ s).trans (winchRequests_works w .release _)).trans (enterWinch_works w x false _)

theorem tripWinch_works (w : WinchId) (s : State) : Works s (tripWinch w s) := by
  unfold tripWinch
  split
  all_goals first | exact finishOp_works w _ _ s | exact .refl s

theorem cuTrip_works (s : State) : Works s (cuTrip s) := (tripWinch_works .a s).trans (tripWinch_works .b _)

theorem winchRun_works (w : WinchId) (s : State) : Works s (winchRun w s) := by
  unfold winchRun
  split
  · split
    · exact enterWinch_works w _ _ s
    · exact finishOp_works w _ _ s
  · exact .refl s

theorem cuRun_works (s : State) : Works s (cuRun s) := (winchRun_works .a s).trans (winchRun_works .b _)

theorem setLatch_works (r : TripRecord) (s : State) : Works s (setLatch r s) := by
  have hset : Works s { s with tau := { s.tau with latch := true, record := some r } } := .of_same rfl rfl rfl le_rfl
  unfold setLatch
  split
  · exact hset
  · exact (hset.trans (tsuTrip_works _)).trans (cuTrip_works _)

theorem setTau_works (x : Tau) (s : State) : Works s { s with tau := x } := .of_same rfl rfl rfl le_rfl

theorem queueTrip_works (c : OwnCause) (s : State) : Works s (queueTrip c s) := queueFrame_works _ _ _ _ s

theorem beginCause_works (c : OwnCause) (s : State) : Works s (beginCause c s) := by
  unfold beginCause
  split
  · exact .refl s
  · have hset := setLatch_works ⟨ownTripCause c, s.sc.number, ownTripWinch c⟩ s
    exact (hset.trans (setTau_works _ _)).trans (queueTrip_works c _)

theorem endCause_works (c : OwnCause) (s : State) : Works s (endCause c s) := .of_same (by simp) (by simp) (by simp) (by simp)

theorem partWinch_works (w : WinchId) (s : State) : Works s (partWinch w s) :=
  ((finishOp_works w _ _ s).trans (onLatched_works _ _)).trans (beginCause_works _ _)

theorem makeFast_works (f : Frame) (w : WinchId) (s : State) : Works s (makeFast f w s) := by
  unfold makeFast
  split
  · exact beginOp_works w _ _ s
  · exact beginOp_works w _ _ s
  · exact (endCause_works _ s).trans (beginOp_works w _ _ _)
  · exact .refl s
  all_goals exact refuse_works f _ s

theorem releaseFall_works (f : Frame) (w : WinchId) (s : State) : Works s (releaseFall f w s) := by
  simp only [releaseFall]
  repeat' split
  all_goals first | exact .refl s | exact refuse_works f _ s | exact beginOp_works w _ _ s

theorem ownCouple_works {act : Frame → WinchId → State → State} (hact : ∀ f w s, Works s (act f w s)) (f : Frame)
    (s : State) : Works s (ownCouple act f s) := by
  unfold ownCouple
  repeat' split
  all_goals first | exact .refl s | exact hact _ _ s | exact refuse_works f _ s

theorem setRun_works (w : WinchId) (n : Nat) (s : State) : Works s (setRun w n s) := onWinch_works w _ s

theorem easeInhibit_works (w : WinchId) (t : Int) (s : State) : Works s (easeInhibit w t s) := onWinch_works w _ s

theorem holdingScan_works (w : WinchId) (t : Int) (s : State) : Works s (holdingScan w t s) := by
  simp only [holdingScan]
  repeat' split
  · exact partWinch_works w s
  · exact enterWinch_works w _ _ s
  · exact beginOp_works w _ _ s
  · exact setRun_works w _ s
  · exact setRun_works w _ s

theorem overloadScan_works (w : WinchId) (t : Int) (s : State) : Works s (overloadScan w t s) := by
  have hrecap (n : Nat) : Works s (recap w (easeInhibit w t (setRun w n s))) :=
    ((setRun_works w n s).trans (easeInhibit_works w t _)).trans (recap_works w _)
  simp only [overloadScan]
  repeat' split
  · exact partWinch_works w s
  · exact beginOp_works w _ _ s
  · exact enterWinch_works w _ _ s
  · exact hrecap _
  · exact hrecap _

theorem renderingScan_works (w : WinchId) (t : Int) (s : State) : Works s (renderingScan w t s) := by
  unfold renderingScan
  repeat' split
  · exact partWinch_works w s
  · exact finishOp_works w _ _ s
  · exact .refl s

theorem blindScan_works (w : WinchId) (r : Reading) (t : Int) (s : State) : Works s (blindScan w r t s) := by
  unfold blindScan
  repeat' split
  · exact setRun_works w _ s
  · exact enterWinch_works w _ _ s
  · exact setRun_works w _ s

theorem scanTension_works (w : WinchId) (r : Reading) (t : Int) (s : State) : Works s (scanTension w r t s) := by
  unfold scanTension
  split
  case h_7 => split <;> first | exact finishOp_works w _ _ s | exact .refl s
  case h_8 => exact holdingScan_works w t s
  case h_9 => exact overloadScan_works w t s
  case h_10 => exact renderingScan_works w t s
  case h_11 => exact blindScan_works w r t s
  all_goals exact .refl s

theorem scanNoTension_works (w : WinchId) (s : State) : Works s (scanNoTension w s) := by
  unfold scanNoTension
  split
  all_goals first | exact finishOp_works w _ _ s | exact setRun_works w _ s | exact .refl s

theorem winchScan_works (w : WinchId) (m : SampleSet) (s : State) : Works s (winchScan w m s) := by
  unfold winchScan
  split
  · have hstore : Works s (storeTension w (tensionOf m w) s) := onWinch_works w _ s
    split
    · exact hstore.trans (scanTension_works w _ _ _)
    · exact hstore.trans (scanNoTension_works w _)
  · exact .refl s

theorem startDrive_works (w : WinchId) (s : State) : Works s (startDrive w s) :=
  (onWinch_works w _ s).trans (requestPair_works _ _ _ _)

/-! ### HCU -/

theorem queueDemand_works (s : State) : Works s (queueDemand s) :=
  (onHcu_works _ s).trans (queueFrame_works _ _ _ _ _)

theorem queueCommand_works (p : List Byte) (s : State) : Works s (queueCommand p s) := queueFrame_works _ _ _ _ s

theorem setLamp_works (b : Bool) (s : State) : Works s (setLamp b s) := ⟨rfl, rfl, id, fun h => { h with }, id⟩

theorem enterCommand_works (s : State) : Works s (enterCommand s) :=
  ((onHcu_works _ s).trans (queueDemand_works _)).trans (setLamp_works true _)

theorem leaveCommand_works (s : State) : Works s (leaveCommand s) :=
  ((onHcu_works _ s).trans (setLamp_works false _)).trans ⟨rfl, rfl, .withdrawDemand, id, id⟩

theorem applyClaim_works (k : ClaimKind) (e : Seq16) (x : Station) (s : State) : Works s (applyClaim k e x s) := by
  unfold applyClaim
  split
  · exact onHcu_works _ s
  · exact onHcu_works _ s
  · exact count_works _ s

theorem helmAfterClaim_works (k : ClaimKind) (x : Station) (r : ClaimResult) (s : State) :
    Works s (helmAfterClaim k x r s) := by
  simp only [helmAfterClaim]
  repeat' split
  · exact (onHcu_works _ s).trans (enterCommand_works _)
  · exact onHcu_works _ s
  · exact .refl s
  · exact leaveCommand_works s
  · exact count_works _ s
  · exact .refl s
  · exact onHcu_works _ s
  · exact .refl s

theorem claim_works (k : ClaimKind) (e : Seq16) (x : Station) (s : State) : Works s (claim k e x s) := by
  unfold claim
  split
  · exact (applyClaim_works k e x s).trans (helmAfterClaim_works k x _ _)
  · exact applyClaim_works k e x s

theorem seizeEdge_works (s : State) : Works s (seizeEdge s) := by
  unfold seizeEdge
  split
  · exact .refl s
  · exact ((onHcu_works _ s).trans (queueCommand_works _ _)).trans (enterCommand_works _)

theorem takeEdge_works (s : State) : Works s (takeEdge s) := by
  unfold takeEdge
  repeat' split
  · exact .refl s
  · exact seizeEdge_works s
  · exact (onHcu_works _ s).trans (queueCommand_works _ _)

theorem helmEdges_works (a b : Bool) (s : State) : Works s (helmEdges a b s) := by
  have hfree : Works s { s with freeSeq := s.freeSeq + 1 } := .of_same rfl rfl rfl le_rfl
  unfold helmEdges
  split
  · exact .refl s
  · exact takeEdge_works s
  · exact seizeEdge_works s
  · split
    · exact (hfree.trans (takeEdge_works _)).trans (seizeEdge_works _)
    · exact (hfree.trans (seizeEdge_works _)).trans (takeEdge_works _)

theorem commandScan_works (s : State) : Works s (commandScan s) := by
  unfold commandScan
  repeat' split
  · exact (onHcu_works _ s).trans (queueDemand_works _)
  · exact onHcu_works _ s
  · exact .refl s

theorem hcuScan_works (m : SampleSet) (s : State) : Works s (hcuScan m s) :=
  ((onHcu_works (helmInputs (cfg5 s) m) s).trans (helmEdges_works _ _ _)).trans (commandScan_works _)

theorem grantTo_works (q : Station) (s : State) : Works s (grantTo q s) :=
  ((queueCommand_works _ s).trans (onHcu_works _ _)).trans (leaveCommand_works _)

theorem ownRequest_works (f : Frame) (s : State) : Works s (ownRequest f s) := by
  unfold ownRequest
  repeat' split
  · exact queueCommand_works _ s
  · exact grantTo_works _ s
  · exact queueCommand_works _ s
  · exact .refl s

theorem ownGrant_works (f : Frame) (s : State) : Works s (ownGrant f s) := by
  simp only [ownGrant]
  split
  · exact claim_works _ _ _ s
  · exact count_works _ s

theorem ownDemand_works (f : Frame) (s : State) : Works s (ownDemand f s) := by
  simp only [ownDemand]
  split
  · exact (claim_works _ _ _ s).trans (onHcu_works _ _)
  · exact claim_works _ _ _ s

/-! ### FAU, SC and the replies -/

theorem closeLeg_works (g : Bool) (n : Seq16) (s : State) : Works s (closeLeg g n s) :=
  (queueFrame_works _ _ _ _ s).trans (.of_same rfl rfl rfl le_rfl)

theorem takeLeg_works (n : Seq16) (s : State) : Works s (takeLeg n s) := by
  simp only [takeLeg]
  repeat' split
  · exact .refl s
  · exact closeLeg_works _ n s
  · exact count_works _ s

theorem adoptLeg_works (g : Bool) (n : Seq16) (p : PeerState) (s : State) : Works s (adoptLeg g n p s) := by
  unfold adoptLeg
  split
  · exact closeLeg_works _ n s
  · exact .refl s

theorem putPeer_works (n : Station) (r : PeerRecord) (s : State) : Works s (putPeer n r s) :=
  .of_same (by simp) (by simp) (by simp) (by simp)

theorem ownCap_works (f : Frame) (s : State) : Works s (ownCap f s) := by
  simp only [ownCap]
  repeat' split
  · exact .refl s
  · exact putPeer_works _ _ s
  · exact refuse_works f _ s

theorem ownAccount_works (f : Frame) (s : State) : Works s (ownAccount f s) := by
  simp only [ownAccount]
  split
  · exact (putPeer_works _ _ s).trans (adoptLeg_works _ _ _ _)
  · exact adoptLeg_works _ _ _ s

theorem queueStatus_works (s : State) : Works s (queueStatus s) := queueFrame_works _ _ _ _ s

theorem setStation_works (x : StationState) (s : State) : Works s (setStation x s) := .of_same rfl rfl rfl le_rfl

theorem startJoining_works (s : State) : Works s (startJoining s) := ⟨rfl, rfl, id, fun h => { h with }, id⟩

theorem fauJoin_works (s : State) : Works s (fauJoin s) := .of_same (by simp) (by simp) (by simp) (by simp)

theorem enterJoining_works (s : State) : Works s (enterJoining s) :=
  ((((startJoining_works s).trans (fauJoin_works _)).trans (tsuChange_works _)).trans (stuChange_works _)).trans
    (queueStatus_works _)

theorem enterRun_works (s : State) : Works s (enterRun s) :=
  ((((setStation_works _ s).trans (tsuChange_works _)).trans (stuChange_works _)).trans (cuRun_works _)).trans
    (queueStatus_works _)

theorem enterHold_works (s : State) : Works s (enterHold s) :=
  (((setStation_works _ s).trans (tsuChange_works _)).trans (stuChange_works _)).trans (queueStatus_works _)

theorem leaveHold_works (s : State) : Works s (leaveHold s) :=
  (((setStation_works _ s).trans (tsuChange_works _)).trans (stuChange_works _)).trans (queueStatus_works _)

theorem onSc_works (f : Sc → Sc) (s : State) : Works s (onSc f s) := .of_same rfl rfl rfl le_rfl

theorem refuseBlock_works (f : Frame) (b : Option Block) (r : Reason) (s : State) : Works s (refuseBlock f b r s) :=
  (refuse_works f r s).trans (onSc_works _ _)

theorem acceptBlock_works (b : Block) (s : State) : Works s (acceptBlock b s) := by
  simp only [acceptBlock]
  split
  · exact ((onSc_works _ s).trans (onSc_works _ _)).trans (enterJoining_works _)
  · exact onSc_works _ s

theorem checkBlock_works (f : Frame) (b : Block) (s : State) : Works s (checkBlock f b s) := by
  unfold checkBlock
  repeat' split
  · exact (refuseBlock_works f _ _ s).trans (onSc_works _ _)
  · exact acceptBlock_works b s
  · exact .refl s

theorem takePart_works (f : Frame) (b : Block) (s : State) : Works s (takePart f b s) := by
  simp only [takePart]
  repeat' split
  · exact count_works _ s
  · exact refuseBlock_works f _ _ s
  · exact refuseBlock_works f _ _ s
  · exact (onSc_works _ s).trans (checkBlock_works f b _)

theorem ownCommission_works (f : Frame) (s : State) : Works s (ownCommission f s) := by
  unfold ownCommission
  repeat' split
  · exact refuseBlock_works f _ _ s
  · exact refuseBlock_works f _ _ s
  · exact refuseBlock_works f _ _ s
  · exact takePart_works f _ s

theorem ownHold_works (f : Frame) (s : State) : Works s (ownHold f s) := by
  unfold ownHold
  repeat' split
  · exact .refl s
  · exact refuse_works f _ s
  · exact enterHold_works s

theorem ownRelease_works (f : Frame) (s : State) : Works s (ownRelease f s) := by
  unfold ownRelease
  repeat' split
  · exact .refl s
  · exact leaveHold_works s
  · exact refuse_works f _ s

theorem ownTrip_works (f : Frame) (s : State) : Works s (ownTrip f s) := by
  unfold ownTrip
  split
  · exact .refl s
  · exact setLatch_works _ s

theorem ownClearTrip_works (f : Frame) (s : State) : Works s (ownClearTrip f s) := by
  unfold ownClearTrip
  repeat' split
  · exact .refl s
  · exact .refl s
  · exact refuse_works f _ s
  · exact refuse_works f _ s
  · exact .of_same rfl rfl rfl le_rfl

theorem ownAck_works (f : Frame) (s : State) : Works s (ownAck f s) := by
  simp only [ownAck]
  repeat' split
  · exact .refl s
  · exact (onLatched_works _ s).trans (stuAckJam_works _)
  · exact onLatched_works _ s

/-- A reply joins the queue where fewer than 4 wait (R189). -/
theorem ownQuery_works (x : Subject) (f : Frame) (s : State) : Works s (ownQuery x f s) := by
  unfold ownQuery
  split
  · exact .refl s
  split
  · exact count_works _ s
  next hroom =>
    have hqueue (p : List Byte) : Works s (queueReply p s) :=
      ⟨rfl, rfl, fun h => { h with replies := by simp only [queueReply, List.length_append, List.length_singleton]; omega },
        id, id⟩
    exact (hqueue (replyPayload s x f)).trans (.of_same (by simp) (by simp) (by simp) (by simp))

/-- The owner of an admitted frame works on the line and the drives as every unit does. -/
theorem ownerOf_works (c : Instr) (f : Frame) (s : State) : Works s (ownerOf c f s) := by
  cases c with
  | trip => exact ownTrip_works f s
  | cap => exact ownCap_works f s
  | commandRequest => exact ownRequest_works f s
  | commandGrant => exact ownGrant_works f s
  | commandDecline => exact .of_same (by simp [ownerOf]) (by simp [ownerOf]) (by simp [ownerOf]) (by simp [ownerOf])
  | commandSeize => exact claim_works _ _ _ s
  | clearTrip => exact ownClearTrip_works f s
  | ackAlarms => exact ownAck_works f s
  | holdStation => exact ownHold_works f s
  | releaseStation => exact ownRelease_works f s
  | demand => exact ownDemand_works f s
  | coupleMakeFast => exact ownCouple_works makeFast_works f s
  | coupleRelease => exact ownCouple_works releaseFall_works f s
  | status => exact .of_same (by simp [ownerOf]) (by simp [ownerOf]) (by simp [ownerOf]) (by simp [ownerOf])
  | leg => exact takeLeg_works _ s
  | account => exact ownAccount_works f s
  | commission => exact ownCommission_works f s
  | queryCounters | queryAlarms | queryPeer | queryLeg | queryConvoyFuel | queryCommission => exact ownQuery_works _ f s
  | _ => exact .refl s

/-! ### The line's own commands -/

section
variable {t : Tbi}

theorem TbiSound.receive (c : Checked) (h : TbiSound t) : TbiSound (receive c t) := by
  unfold Machine.receive
  split
  · exact h.bump _
  · exact h.bump _
  · split
    · exact { h with rxQueue := by simp only [List.length_append, List.length_singleton]; omega }
    · exact h.bump _

theorem TbiSound.startFrame (k : TxSlot) (x : TxFrame) (hline : t.line = .active) (h : TbiSound t) :
    TbiSound (startFrame k x t) := { h with flying := fun _ => hline }

theorem TbiSound.landed (h : TbiSound t) : TbiSound { t with inflight := none } :=
  { h with flying := fun hf => nomatch hf }

theorem TbiSound.replies_le {rs : List TxFrame} (hle : rs.length ≤ t.replies.length) (h : TbiSound t) :
    TbiSound { t with replies := rs } := { h with replies := hle.trans h.replies }

theorem TbiSound.endAttempt (h : TbiSound t) : TbiSound (endAttempt t) := by
  unfold Machine.endAttempt
  split
  · exact h
  · simp only
    split
    · exact { h.landed with }
    · exact h.landed.bump _
    · split
      · exact (h.landed.bump .lifetimeDrop).replies_le (by simp)
      · exact (h.landed.bump .lifetimeDrop)
    · exact h.landed

theorem TbiSound.frameSent (h : TbiSound t) : TbiSound (frameSent t) := by
  unfold Machine.frameSent
  split
  · exact h
  · have hsent : TbiSound { t with inflight := none, aborts := 0 } :=
      { h.landed with aborts := Nat.zero_le _, full := fun h8 => nomatch h8 }
    split
    · exact hsent.replies_le (by simp)
    · exact hsent

theorem waitingReply_length {x : TxFrame × List TxFrame} (h : waitingReply t = some x) :
    x.2.length ≤ t.replies.length := by
  unfold waitingReply at h
  simp only at h
  split at h <;> simp_all
  all_goals subst h; simp

theorem TbiSound.expiring {k : TxSlot} {x : TxFrame} {u : Tbi} (hx : expiring k t = some (x, u)) (h : TbiSound t) :
    TbiSound u := by
  have hslot (k : TxSlot) (y : Option TxFrame) : TbiSound { t with slots := putSlot t.slots k y } := { h with }
  unfold Machine.expiring at hx
  simp only at hx
  split at hx <;> simp only [Option.map_eq_some_iff, Prod.mk.injEq] at hx
  · obtain ⟨y, hy, -, rfl⟩ := hx
    exact (h.replies_le (waitingReply_length hy)).bump _
  · obtain ⟨y, -, -, rfl⟩ := hx
    exact (hslot _ none).bump _

end

theorem onTbi_works {f : Tbi → Tbi} {s : State} (hline : (f s.tbi).line = s.tbi.line)
    (hf : TbiSound s.tbi → TbiSound (f s.tbi)) : Works s (onTbi f s) := ⟨hline, rfl, hf, id, id⟩

theorem live_works {f : State → State} {s t : State} (h : live f s = .next t) (hf : Works s (f s)) : Works s t := by
  rw [live_next h]
  split
  · exact hf
  · exact .refl s

theorem atExpiry_works {timer : Option Nat} {f : Nat → State → State} {s : State}
    (hf : ∀ n u, Works u (f n u)) : Works s (atExpiry timer f s) := by
  obtain ⟨-, h⟩ | ⟨n, -, h⟩ := atExpiry_cases timer f s
  · rw [h]; exact .refl s
  · rw [h]; exact (reach_works n s).trans (hf n _)

theorem execFrameReception_works {bits : List Bool} {s t : State} (h : execFrameReception bits s = .next t) :
    Works s t := by
  refine live_works h (onTbi_works ?_ (.receive _))
  unfold receive
  repeat' split
  all_goals rfl

theorem execLineIdle_works {s t : State} (h : execLineIdle s = .next t) : Works s t := by
  refine live_works h ?_
  split
  next hoffer =>
    have hline : s.tbi.line = .active := by
      simp only [mayOffer, Bool.and_eq_true, beq_iff_eq] at hoffer
      exact hoffer.1.1
    split
    · exact onTbi_works rfl (.startFrame _ _ hline)
    · exact .refl s
  next => exact .refl s

theorem endAttempt_line (t : Tbi) : (endAttempt t).line = t.line := by
  unfold endAttempt
  repeat' split
  all_goals rfl

theorem execArbitrationLoss_works {s t : State} (h : execArbitrationLoss s = .next t) : Works s t :=
  live_works h (onTbi_works (endAttempt_line _) .endAttempt)

theorem execTransmissionComplete_works {s t : State} (h : execTransmissionComplete s = .next t) : Works s t := by
  refine live_works h (onTbi_works ?_ .frameSent)
  unfold frameSent
  split <;> rfl

theorem expiring_line {t u : Tbi} {k : TxSlot} {x : TxFrame} (h : expiring k t = some (x, u)) : u.line = t.line := by
  unfold expiring at h
  simp only at h
  split at h <;> simp only [Option.map_eq_some_iff, Prod.mk.injEq] at h
  all_goals
    obtain ⟨y, -, -, rfl⟩ := h
    rfl

theorem execFrameLifetimeExpiry_works {k : TxSlot} {s t : State} (h : execFrameLifetimeExpiry k s = .next t) :
    Works s t := by
  have hair (fl : InFlight) :
      Works s (onTbi (fun t => { t with inflight := t.inflight.map endInFlight }) (reach fl.tx.lifeEnd s)) :=
    (reach_works _ s).trans (onTbi_works rfl fun h => { h with flying := by simpa using h.flying })
  have hdrop {x : TxFrame} {u : Tbi} (hx : expiring k s.tbi = some (x, u)) :
      Works s (onTbi (fun _ => u) (reach x.lifeEnd s)) :=
    (reach_works _ s).trans (onTbi_works (expiring_line hx) (.expiring hx))
  refine live_works h ?_
  simp only
  split
  · exact hair _
  next hx =>
    split
    · exact hair _
    · exact hdrop hx
  next hx => exact hdrop hx
  · exact .refl s

/-! ### The commands that only work the units -/

/-- The commands other than the frame rows that reset the part, fail its supply or change the line state. -/
def lineStateRows (c : Instr) : Prop :=
  (∃ n f, c = .powerOnReset n f) ∨ (∃ n f, c = .lineReset n f) ∨ (∃ u v, c = .supplyFailure u v) ∨ c = .readbackError
    ∨ c = .muteTimerExpiry

theorem execScanTrigger_works {pins : ScanPins} {s t : State} (h : execScanTrigger pins s = .next t) : Works s t := by
  refine live_works h (atExpiry_works fun n u => ?_)
  have hstart : Works u { u with ssq := { u.ssq with controlTimer := some (n + ms 100) } } := .of_same rfl rfl rfl le_rfl
  refine hstart.trans ?_
  unfold trigger
  split
  · exact .of_same (by simp) (by simp) (by simp) (by simp)
  · exact count_works _ _
  · exact count_works _ _
  · exact .refl _

theorem execSteerStopActive_works {s t : State} (h : execSteerStopActive s = .next t) : Works s t := by
  have hpins : Works s { s with pins := { s.pins with steerStop := true } } := .of_same rfl rfl rfl le_rfl
  refine live_works h ?_
  simp only
  repeat' split
  · exact .refl s
  · exact (hpins.trans (cutRudder_works _)).trans (stuStop_works _)
  · exact hpins

theorem execEndStopActive_works {x : RudderSide} {s t : State} (h : execEndStopActive x s = .next t) : Works s t := by
  have hpins : Works s { s with pins := setEndStop s.pins x true } := .of_same rfl rfl rfl le_rfl
  refine live_works h ?_
  simp only
  repeat' split
  · exact .refl s
  · exact hpins.trans ⟨rfl, rfl, id, fun h => { h with rud := h.rud.cut _ _ }, id⟩
  · exact hpins

theorem execPeriodBoundary_works {s t : State} (h : execPeriodBoundary s = .next t) : Works s t :=
  live_works h ((reach_works _ s).trans ⟨rfl, rfl, id, fun hd => hd.boundaryDch (le_max_right _ _), id⟩)

theorem execDeadTimeExpiry_works {i : PairId} {s t : State} (h : execDeadTimeExpiry i s = .next t) : Works s t := by
  refine live_works h (atExpiry_works fun n u => ?_)
  cases i with
  | rudder => exact ⟨rfl, rfl, id, fun h => { h with rud := h.rud }, id⟩
  | winchA => exact ⟨rfl, rfl, id, fun h => { h with wa := h.wa }, id⟩
  | winchB => exact ⟨rfl, rfl, id, fun h => { h with wb := h.wb }, id⟩

theorem execAccountTimerExpiry_works {s t : State} (h : execAccountTimerExpiry s = .next t) : Works s t := by
  refine live_works h (atExpiry_works fun n u => ?_)
  have hrec (x : Fau) : Works u (reconcile { u with fau := x }) := .of_same (by simp) (by simp) (by simp) (by simp)
  simp only
  split
  · exact (hrec _).trans (queueFrame_works _ _ _ _ _)
  · exact hrec _

theorem execTripRepeatExpiry_works {s t : State} (h : execTripRepeatExpiry s = .next t) : Works s t := by
  refine live_works h ?_
  split
  · exact atExpiry_works fun n u => (setTau_works _ _).trans (queueTrip_works _ _)
  · exact .refl s

/-- A unit's row that takes a delivered sample set works as its scan does. -/
theorem delivery_works {s : State} {mark : Bool} {d : Due} {f : SampleSet → State → State}
    (hf : ∀ m u, Works u (f m u)) :
    Works s (match s.ssq.sample with | some m => if mark then f m { s with due := d } else s | none => s) := by
  have hdue : Works s { s with due := d } := .of_same rfl rfl rfl le_rfl
  repeat' split
  · exact hdue.trans (hf _ _)
  all_goals exact .refl s

theorem exec_works {c : Instr} {s t : State} (hrow : c ∉ frameRows) (hline : ¬ lineStateRows c)
    (h : exec c s = .next t) : Works s t := by
  have hsame (htbi : .tbi ∉ changedBy c) (hdch : .dch ∉ changedBy c) (htsu : .tsu ∉ changedBy c)
      (hnow : s.now ≤ t.now) : Works s t :=
    .of_same (exec_onlyChanges h .tbi htbi) (exec_onlyChanges h .dch hdch) (exec_onlyChanges h .tsu htsu) hnow
  cases c with
  | powerOnReset n f => exact absurd (.inl ⟨n, f, rfl⟩) hline
  | lineReset n f => exact absurd (.inr (.inl ⟨n, f, rfl⟩)) hline
  | supplyFailure u v => exact absurd (.inr (.inr (.inl ⟨u, v, rfl⟩))) hline
  | readbackError => exact absurd (.inr (.inr (.inr (.inl rfl)))) hline
  | muteTimerExpiry => exact absurd (.inr (.inr (.inr (.inr rfl)))) hline
  | frameReception bits => exact execFrameReception_works h
  | lineIdle => exact execLineIdle_works h
  | arbitrationLoss => exact execArbitrationLoss_works h
  | transmissionComplete => exact execTransmissionComplete_works h
  | frameLifetimeExpiry k => exact execFrameLifetimeExpiry_works h
  | reportTimerExpiry => exact live_works h (atExpiry_works fun n u => (onSc_works _ u).trans (queueStatus_works _))
  | joinTimerExpiry => exact live_works h (atExpiry_works fun n u => (onSc_works _ u).trans (enterRun_works _))
  | scanTrigger pins => exact execScanTrigger_works h
  | hcuScanCompletion =>
    change execHcuScanCompletion s = .next t at h
    exact live_works h (delivery_works hcuScan_works)
  | tsuScanCompletion =>
    change execTsuScanCompletion s = .next t at h
    exact live_works h (delivery_works fun m => tsuScan_works m.rpm)
  | stuScanCompletion =>
    change execStuScanCompletion s = .next t at h
    exact live_works h (delivery_works stuScan_works)
  | cuScanCompletion =>
    change execCuScanCompletion s = .next t at h
    exact live_works h (delivery_works fun m u => (winchScan_works .a m u).trans (winchScan_works .b m _))
  | fauScanCompletion =>
    change execFauScanCompletion s = .next t at h
    exact live_works h (delivery_works fun m u => .of_same (by simp) (by simp) (by simp) (by simp))
  | tauScanCompletion =>
    change execTauScanCompletion s = .next t at h
    refine live_works h (delivery_works fun m u => ?_)
    unfold tauScan
    repeat' split
    · exact beginCause_works _ u
    · exact endCause_works _ u
    · exact .refl u
  | requestTimerExpiry | helmLossTimerExpiry => exact live_works h (atExpiry_works fun n u => onHcu_works _ u)
  | demandTimerExpiry => exact live_works h (atExpiry_works fun n u => (onHcu_works _ u).trans (queueDemand_works _))
  | staleDeadline n =>
    refine live_works h ?_
    split
    · exact atExpiry_works fun _ u => putPeer_works n _ u
    · exact .refl s
  | lossDeadline n =>
    refine live_works h ?_
    split
    · exact atExpiry_works fun _ u => .of_same (by simp) (by simp) (by simp) (by simp)
    · exact .refl s
  | rundownTimeout =>
    change execRundownTimeout s = .next t at h
    refine live_works h ?_
    split
    · exact atExpiry_works fun _ u => (commitTsu_works _ u).trans (onLatched_works _ _)
    all_goals exact .refl s
  | dwellExpiry =>
    change execDwellExpiry s = .next t at h
    refine live_works h ?_
    split
    · exact atExpiry_works fun _ u => commitTsu_works _ u
    all_goals exact .refl s
  | settleExpiry =>
    change execSettleExpiry s = .next t at h
    refine live_works h ?_
    split
    · exact atExpiry_works fun _ u => commitTsu_works _ u
    all_goals exact .refl s
  | jamTimerExpiry =>
    refine live_works h ?_
    split
    · exact atExpiry_works fun _ u => (commitStu_works _ u).trans (onLatched_works _ _)
    · exact .refl s
  | steerStopActive => exact execSteerStopActive_works h
  | endStopActive side => exact execEndStopActive_works h
  | takeupLimitExpiry w =>
    refine live_works h ?_
    split
    · exact atExpiry_works fun _ u => (finishOp_works w _ _ u).trans (onLatched_works _ _)
    · exact .refl s
  | renderLimitExpiry w | releaseTimeExpiry w =>
    refine live_works h ?_
    split
    · exact atExpiry_works fun _ u => finishOp_works w _ _ u
    · exact .refl s
  | brakeDwellExpiry w =>
    refine live_works h ?_
    split
    · exact atExpiry_works fun _ u => startDrive_works w u
    · exact .refl s
  | capRepeatExpiry w =>
    change execCapRepeatExpiry w s = .next t at h
    refine live_works h ?_
    split
    · exact atExpiry_works fun _ u => sendCap_works w _ u
    · exact .refl s
  | accountTimerExpiry => exact execAccountTimerExpiry_works h
  | tripRepeatExpiry => exact execTripRepeatExpiry_works h
  | periodBoundary => exact execPeriodBoundary_works h
  | deadTimeExpiry i => exact execDeadTimeExpiry_works h
  | pulseEdge | conversionEnd | interruptedConversionEnd | steerStopInactive | endStopInactive =>
    exact hsame (by simp [changedBy]) (by simp [changedBy]) (by simp [changedBy]) (exec_onlyChanges h .now (by simp [changedBy])).ge
  | _ => exact absurd (by decide) hrow

/-- A condition on the line and the drives that the units' work keeps, a frame row keeps if it outlives a duplicate. -/
theorem keptByRows_of_works {P : State → Prop} (hworks : ∀ s t, t.sc = s.sc → Works s t → P s → P t)
    (hdeq : ∀ s, P s → P (dequeue s)) (hdup : ∀ s, joined s.sc.station = true → P s → P (duplicateSeen s)) :
    KeptByRows P :=
  ⟨hdeq, fun c s => hworks s _ rfl (count_works c s), fun f r s => hworks s _ rfl (refuse_works f r s), hdup⟩

end Sys2Proof.Machine
end

section
/-! PROOFS. What every step keeps of the drives, FAULT and the join timer (R148, R163 to R165, R169, R198). -/

namespace Sys2Proof.Machine

open Sys2Proof

/-! ### Drives: every command keeps their conditions -/

theorem duplicateSeen_dchSound {s : State} (h : DchSound s.dch s.now) :
    DchSound (duplicateSeen s).dch (duplicateSeen s).now := { h.rest with }

theorem dchSound_keptByRows : KeptByRows fun s => DchSound s.dch s.now :=
  keptByRows_of_works (fun _ _ _ hw => hw.drive) (fun _ h => h) fun _ _ => duplicateSeen_dchSound

theorem syncFault_dchSound {s : State} (h : DchSound s.dch s.now) : DchSound (syncFault s).dch (syncFault s).now :=
  { h with }

theorem exec_dchSound {c : Instr} {s t : State} (h : exec c s = .next t) (hs : DchSound s.dch s.now) :
    DchSound t.dch t.now := by
  by_cases hrow : c ∈ frameRows
  · exact dchSound_keptByRows.exec hrow (fun f _ _ => (ownerOf_works c f _).drive) h hs
  by_cases hline : lineStateRows c
  · obtain ⟨n, f, rfl⟩ | ⟨n, f, rfl⟩ | ⟨u, v, rfl⟩ | rfl | rfl := hline
    · cases h
      exact dchSound_reset _ _
    · obtain rfl | rfl | ⟨-, rfl⟩ := lineReset_cases h
      · exact hs
      · exact dchSound_reset _ _
      · exact (enterJoining_works _).drive (dchSound_reset _ _)
    · rw [exec_supplyFailure] at h
      cases h
      have hnow : (if losesRetention s u v then loseRetention s else s).now = s.now := by split <;> rfl
      simp only [hnow]
      exact hs.rest
    · rw [live_next h]
      repeat' split
      · exact syncFault_dchSound hs
      all_goals exact hs
    · obtain rfl | ⟨n, -, -, rfl⟩ := expiry_cases (live_next h)
      · exact hs
      · exact syncFault_dchSound ((reach_works n s).drive hs)
  · exact (exec_works hrow hline h).drive hs

/-! ### The join timer -/

theorem joiningTimed.of_same {s t : State} (hsc : SameStation s.sc t.sc) (h : joiningTimed s) : joiningTimed t := by
  intro ht
  rw [hsc.station]
  exact h (hsc.joinTimer ▸ ht)

/-- Outside JOINING the join timer is stopped. -/
theorem joinTimer_eq_none {s : State} (h : joiningTimed s) (hst : s.sc.station ≠ .joining) : s.sc.joinTimer = none := by
  by_contra hne
  exact hst (h (Option.isSome_iff_ne_none.2 hne))

/-- A change of station state that leaves the stopped join timer. -/
theorem joiningTimed_of_stopped {s t : State} {st : StationState} (hsc : t.sc = { s.sc with station := st })
    (hjoin : s.sc.joinTimer = none) : joiningTimed t := by
  intro ht
  rw [hsc, hjoin] at ht
  cases ht

theorem enterJoining_joiningTimed (s : State) : joiningTimed (enterJoining s) := fun _ => by rw [enterJoining_sc]

theorem joiningTimed_keptByRows : KeptByRows joiningTimed :=
  ⟨fun _ h => h, fun _ _ h => h, fun _ _ _ h => h, fun _ _ _ ht => nomatch ht⟩

theorem ownerOf_joiningTimed {c : Instr} {f : Frame} {s : State} (ha : admits s f) (hfits : frameFor c f = true)
    (h : joiningTimed (taken s)) : joiningTimed (ownerOf c f (taken s)) := by
  obtain ⟨-, -, hj⟩ := ha
  by_cases hc : c ∈ [Instr.holdStation, .releaseStation, .commission]
  · simp only [List.mem_cons, List.not_mem_nil, or_false] at hc
    obtain rfl | rfl | rfl := hc
    · have hst := station_of_admitted_hold hj hfits
      simp only [ownerOf, ownHold]
      repeat' split
      · exact h
      · exact h
      · exact joiningTimed_of_stopped (enterHold_sc _) (joinTimer_eq_none h (by simp [taken, hst]))
    · simp only [ownerOf, ownRelease]
      repeat' split
      · exact h
      next hst => exact joiningTimed_of_stopped (leaveHold_sc _) (joinTimer_eq_none h (by simp [hst]))
      · exact h
    · obtain ⟨c, x, hc, ht⟩ | ⟨c, hc, ht⟩ := ownCommission_commissioned f (taken s)
      · rw [ownerOf, ht]
        exact joiningTimed.of_same (s := taken s) hc h
      · rw [ownerOf, ht]
        exact enterJoining_joiningTimed _
  · exact h.of_same (.of_eq (ownerOf_sc hc f _))

/-- The join timer runs in JOINING only, whatever the command (R198). -/
theorem exec_joiningTimed {c : Instr} {s t : State} (h : exec c s = .next t) (hs : joiningTimed s) :
    joiningTimed t := by
  by_cases hrow : c ∈ frameRows
  · exact joiningTimed_keptByRows.exec hrow (fun f => ownerOf_joiningTimed) h hs
  by_cases hreset : ∃ n f, c = .powerOnReset n f
  · obtain ⟨n, f, rfl⟩ := hreset
    cases h
    exact fun ht => nomatch ht
  by_cases hline : ∃ n f, c = .lineReset n f
  · obtain ⟨n, f, rfl⟩ := hline
    obtain rfl | rfl | ⟨-, rfl⟩ := lineReset_cases h
    · exact hs
    · exact fun ht => nomatch ht
    · exact enterJoining_joiningTimed _
  by_cases hjoin : c = .joinTimerExpiry
  · subst hjoin
    obtain rfl | ⟨d, hd, -, rfl⟩ := expiry_cases (live_next h)
    · exact hs
    · exact joiningTimed_of_stopped (enterRun_sc _) rfl
  · exact hs.of_same (exec_sameStation hrow (fun n f hc => hreset ⟨n, f, hc⟩) (fun n f hc => hline ⟨n, f, hc⟩) hjoin h)

/-! ### FAULT's request -/

theorem faultExact_iff (s : State) : faultExact s ↔ s.dch.faultReq = faultWanted s := by
  rw [Bool.eq_iff_iff]
  simp [faultExact, faultWanted, or_assoc]

theorem syncFault_faultExact (s : State) : faultExact (syncFault s) := (faultExact_iff _).2 rfl

/-- Work that leaves FAULT's request and the line state keeps FAULT exact while SAFE is neither entered nor left. -/
theorem faultExact_of_works {s t : State} (h : Works s t) (hsafe : t.sc.station = .safe ↔ s.sc.station = .safe)
    (hno : t.sc.number = s.sc.number) (hs : faultExact s) : faultExact t := by
  unfold faultExact at *
  rw [h.fault, h.line, hno, hsafe, hs]

theorem faultExact_of_sameStation {s t : State} (h : Works s t) (hsc : SameStation s.sc t.sc) (hs : faultExact s) :
    faultExact t := faultExact_of_works h (by rw [hsc.station]) hsc.number hs

/-- A change of the station state that neither enters nor leaves SAFE. -/
theorem faultExact_of_change {s t : State} {st : StationState} (h : Works s t) (hsc : t.sc = { s.sc with station := st })
    (hold : s.sc.station ≠ .safe) (hnew : st ≠ .safe) (hs : faultExact s) : faultExact t := by
  refine faultExact_of_works h ?_ (by rw [hsc]) hs
  rw [hsc]
  exact iff_of_false hnew hold

theorem enterJoining_faultExact {s : State} (hold : s.sc.station ≠ .safe) (hs : faultExact s) :
    faultExact (enterJoining s) := by
  refine faultExact_of_works (enterJoining_works s) ?_ (by rw [enterJoining_sc]) hs
  rw [enterJoining_sc]
  exact iff_of_false (by simp) hold

theorem faultExact_keptByRows : KeptByRows faultExact :=
  keptByRows_of_works (fun _ _ hsc hw => faultExact_of_sameStation hw (.of_eq hsc)) (fun _ h => h)
    fun _ _ _ => syncFault_faultExact _

theorem ownHold_faultExact {f : Frame} {s : State} (hst : s.sc.station = .run) (hs : faultExact s) :
    faultExact (ownHold f s) := by
  unfold ownHold
  repeat' split
  · exact hs
  · exact faultExact_keptByRows.refuse _ _ _ hs
  · exact faultExact_of_change (enterHold_works s) (enterHold_sc s) (by simp [hst]) (by simp) hs

theorem ownRelease_faultExact {f : Frame} {s : State} (hs : faultExact s) : faultExact (ownRelease f s) := by
  unfold ownRelease
  repeat' split
  · exact hs
  next hst => exact faultExact_of_change (leaveHold_works s) (leaveHold_sc s) (by simp [hst]) (by simp) hs
  · exact faultExact_keptByRows.refuse _ _ _ hs

theorem ownCommission_faultExact {f : Frame} {s : State} (hst : s.sc.station = .listen) (hs : faultExact s) :
    faultExact (ownCommission f s) := by
  have hw := ownCommission_works f s
  obtain ⟨c, x, hc, h⟩ | ⟨c, hc, h⟩ := ownCommission_commissioned f s
  · exact faultExact_of_sameStation hw (by rw [h]; exact hc) hs
  · rw [h]
    have hrecord : Works s { s with sc := c } := .of_same rfl rfl rfl le_rfl
    exact enterJoining_faultExact (by simp [hc.station, hst])
      (faultExact_of_works hrecord (by simp [hc.station]) hc.number hs)

theorem ownerOf_faultExact {c : Instr} {f : Frame} {s : State} (ha : admits s f) (hfits : frameFor c f = true)
    (hs : faultExact (taken s)) : faultExact (ownerOf c f (taken s)) := by
  obtain ⟨-, -, hj⟩ := ha
  by_cases hc : c ∈ [Instr.holdStation, .releaseStation, .commission]
  · simp only [List.mem_cons, List.not_mem_nil, or_false] at hc
    obtain rfl | rfl | rfl := hc
    · exact ownHold_faultExact (station_of_admitted_hold hj hfits) hs
    · exact ownRelease_faultExact hs
    · exact ownCommission_faultExact (station_of_admitted_commission hj hfits) hs
  · exact faultExact_of_sameStation (ownerOf_works c f _) (.of_eq (ownerOf_sc hc f _)) hs

theorem resetUnits_faultExact {sc : Sc} {fau : Fau} {tau : Tau} {ssq : Ssq} {now : Nat} {s : State}
    (hst : sc.station = .listen) : faultExact (resetUnits sc fau tau ssq now s) := by
  rw [faultExact_iff]
  simp [resetUnits, dchReset, faultWanted, hst, tbiReset]

/-- FAULT stays exact: JOINING, from which the join timer leads to RUN, is not SAFE. -/
theorem exec_faultExact {c : Instr} {s t : State} (hjoining : joiningTimed s) (h : exec c s = .next t)
    (hs : faultExact s) : faultExact t := by
  by_cases hrow : c ∈ frameRows
  · exact faultExact_keptByRows.exec hrow (fun f => ownerOf_faultExact) h hs
  by_cases hline : lineStateRows c
  · obtain ⟨n, f, rfl⟩ | ⟨n, f, rfl⟩ | ⟨u, v, rfl⟩ | rfl | rfl := hline
    · cases h
      exact resetUnits_faultExact rfl
    · have hreset : faultExact (lineResetUnits n f s) := resetUnits_faultExact rfl
      obtain rfl | rfl | ⟨-, rfl⟩ := lineReset_cases h
      · exact hs
      · exact hreset
      · exact enterJoining_faultExact (by simp [lineResetUnits, resetUnits, scLineReset]) hreset
    · have hsc : t.sc = s.sc := exec_onlyChanges h .sc (by simp [changedBy])
      rw [exec_supplyFailure] at h
      cases h
      unfold faultExact at *
      rw [hsc]
      exact hs
    · rw [live_next h]
      repeat' split
      · exact syncFault_faultExact _
      all_goals exact hs
    · obtain rfl | ⟨n, -, -, rfl⟩ := expiry_cases (live_next h)
      · exact hs
      · exact syncFault_faultExact _
  have hw := exec_works hrow hline h
  by_cases hjoin : c = .joinTimerExpiry
  · subst hjoin
    obtain rfl | ⟨d, hd, -, rfl⟩ := expiry_cases (live_next h)
    · exact hs
    · have hst : s.sc.station = .joining := hjoining (by simp [hd])
      have hstop : Works s (onSc (fun c => { c with joinTimer := none }) (reach d s)) :=
        (reach_works d s).trans (onSc_works _ _)
      refine faultExact_of_change (enterRun_works _) (enterRun_sc _) (by simp [reach, onSc, hst]) (by simp) ?_
      exact faultExact_of_works hstop Iff.rfl rfl hs
  · have hreset : ∀ n f, c ≠ .powerOnReset n f := fun n f hc => hline (.inl ⟨n, f, hc⟩)
    have hreset' : ∀ n f, c ≠ .lineReset n f := fun n f hc => hline (.inr (.inl ⟨n, f, hc⟩))
    exact faultExact_of_sameStation hw (exec_sameStation hrow hreset hreset' hjoin h) hs

/-- Settles O55: the drives by what the units' work keeps, FAULT and the join timer by the changes of station state. -/
theorem stepKeepsDrive : Obligations.StepKeepsDrive := by
  intro s t ⟨hpairs, hduties, hbrakes, hfault, hjoin⟩ hstep
  have hd : DchSound t.dch t.now :=
    step_keeps (P := fun s => DchSound s.dch s.now) (fun _ _ h => h) (fun _ h => h.later (Nat.le_succ _))
      (fun _ _ _ => exec_dchSound) ((dchSound_iff s).2 ⟨hpairs, hduties, hbrakes⟩) hstep
  have hf : faultExact t ∧ joiningTimed t :=
    step_keeps (P := fun s => faultExact s ∧ joiningTimed s) (fun _ _ h => h) (fun _ h => h)
      (fun _ _ _ h hs => ⟨exec_faultExact hs.2 h hs.1, exec_joiningTimed h hs.2⟩) ⟨hfault, hjoin⟩ hstep
  obtain ⟨hpairs', hduties', hbrakes'⟩ := (dchSound_iff t).1 hd
  exact ⟨hpairs', hduties', hbrakes', hf⟩

end Sys2Proof.Machine
end

section
/-! PROOFS. What every step keeps of the line, the peer records and the sensing records (R1 to R9, R152, R156, R178 to R183). -/

namespace Sys2Proof.Machine

open Sys2Proof

/-! ### The line -/

theorem endAttempt_inflight (t : Tbi) : (endAttempt t).inflight = none := by
  unfold endAttempt
  split
  · assumption
  · simp only
    split <;> rfl

theorem endAttempt_aborts (t : Tbi) : (endAttempt t).aborts = t.aborts := by
  unfold endAttempt
  repeat' split
  all_goals rfl

/-- The line SILENCED by a duplicate, the attempt stopped (R182). -/
theorem duplicateSeen_tbiSound {s : State} (h : TbiSound s.tbi) : TbiSound (duplicateSeen s).tbi := by
  obtain ⟨hc, hr, hx, ha, -, -⟩ := h.endAttempt
  refine ⟨hc, hr, hx, ha, fun _ => nofun, fun hf => ?_⟩
  have hnone : (duplicateSeen s).tbi.inflight = none := endAttempt_inflight s.tbi
  rw [hnone] at hf
  cases hf

theorem tbiSound_keptByRows : KeptByRows fun s => TbiSound s.tbi :=
  keptByRows_of_works (fun _ _ _ hw => hw.tbi)
    (fun s h => { h with rxQueue := (by simp [dequeue] : _ ≤ s.tbi.rxQueue.length).trans h.rxQueue }) fun _ _ => duplicateSeen_tbiSound

/-- An abort counts below 8 and keeps the line, or is the eighth and makes it MUTE (R180, R181). -/
theorem abortFrame_tbiSound {t : Tbi} (now : Nat) (hfly : t.inflight.isSome = true) (h : TbiSound t) :
    TbiSound (muteAt now (abortFrame t)) := by
  have hline : t.line = .active := h.flying hfly
  have hlt : t.aborts < 8 := lt_of_le_of_ne h.aborts fun h8 => h.full h8 hline
  have hcount : (abortFrame t).aborts = t.aborts + 1 := by simp only [abortFrame, endAttempt_aborts]
  obtain ⟨hc, hr, hx, -, -, -⟩ := h.endAttempt.bump .txError
  have hnone : (abortFrame t).inflight = none := endAttempt_inflight t
  unfold muteAt
  split
  · exact ⟨hc, hr, hx, by simp only [hcount]; omega, fun _ => nofun, fun hf => by simp [hnone] at hf⟩
  · exact ⟨hc, hr, hx, by omega, fun h8 => absurd h8 (by omega), fun hf => by simp [hnone] at hf⟩

theorem tbiSound_reset : TbiSound tbiReset :=
  ⟨by decide, Nat.zero_le _, Nat.zero_le _, Nat.zero_le _, (nomatch ·), (nomatch ·)⟩

theorem exec_tbiSound {c : Instr} {s t : State} (h : exec c s = .next t) (hs : TbiSound s.tbi) : TbiSound t.tbi := by
  by_cases hrow : c ∈ frameRows
  · exact tbiSound_keptByRows.exec hrow (fun f _ _ => (ownerOf_works c f _).tbi) h hs
  by_cases hline : lineStateRows c
  · obtain ⟨n, f, rfl⟩ | ⟨n, f, rfl⟩ | ⟨u, v, rfl⟩ | rfl | rfl := hline
    · cases h
      exact tbiSound_reset
    · obtain rfl | rfl | ⟨-, rfl⟩ := lineReset_cases h
      · exact hs
      · exact tbiSound_reset
      · exact (enterJoining_works _).tbi tbiSound_reset
    · rw [exec_supplyFailure] at h
      cases h
      exact hs.landed
    · rw [live_next h]
      repeat' split
      next hfly => exact abortFrame_tbiSound s.now hfly hs
      all_goals exact hs
    · obtain rfl | ⟨n, -, -, rfl⟩ := expiry_cases (live_next h)
      · exact hs
      · exact { hs with aborts := Nat.zero_le _, full := fun h8 => absurd h8 (Nat.zero_ne_add_one 7), flying := fun _ => rfl }
  · exact (exec_works hrow hline h).tbi hs

/-! ### The peer records -/

theorem peer_of_invalid {s : State} {n : Station} (h : validStation n = false) : peer s n = recordAbsent := by
  rw [peer, h]
  rfl

theorem peer_congr {s t : State} (h : t.pt = s.pt) (n : Station) : peer t n = peer s n := by
  simp only [peer, h]

theorem vector_getD_setIfInBounds {α : Type} {n : Nat} (v : Vector α n) {i : Nat} (j : Nat) (d x : α) (hi : i < n) :
    (v.setIfInBounds i x).getD j d = if i = j then x else v.getD j d := by
  have hsize : i < v.toArray.size := by simpa using hi
  simp only [Vector.getD, Vector.toArray_setIfInBounds, Array.getD_eq_getD_getElem?, Array.getElem?_setIfInBounds, hsize]
  split <;> rfl

/-- A record is read where it was replaced, and no other record changes (R1). -/
theorem peer_putPeer (n m : Station) (r : PeerRecord) (s : State) :
    peer (putPeer n r s) m = if m = n ∧ validStation n = true then r else peer s m := by
  by_cases hn : validStation n = true
  · have hput : putPeer n r s = { s with pt := s.pt.setIfInBounds (n.toNat - 1) r } := if_pos hn
    by_cases hm : validStation m = true
    · simp only [peer, hput, hn, hm, if_true, and_true]
      simp only [validStation, decide_eq_true_eq] at hn hm
      rw [vector_getD_setIfInBounds _ _ _ _ (by omega)]
      have hidx : n.toNat - 1 = m.toNat - 1 ↔ m = n := by
        rw [← BitVec.toNat_inj]
        omega
      simp only [hidx]
    · have hne : ¬ (m = n ∧ validStation n = true) := fun h => hm (h.1 ▸ h.2)
      rw [Bool.not_eq_true] at hm
      rw [peer_of_invalid hm, peer_of_invalid hm, if_neg hne]
  · simp [putPeer, hn]

/-- The own record ABSENT, and every record as R2, R3 and R9 have it. -/
def PtSound (s : State) : Prop := ownRecordAbsent s ∧ recordsConsistent s

theorem PtSound.of_same {s t : State} (hpt : t.pt = s.pt) (hno : t.sc.number = s.sc.number) (h : PtSound s) :
    PtSound t := by
  obtain ⟨hown, hrec⟩ := h
  refine ⟨?_, fun n => ?_⟩
  · unfold ownRecordAbsent at *
    rwa [hno, peer_congr hpt]
  · rw [peer_congr hpt]
    exact hrec n

theorem recordConsistent_absent : recordConsistent recordAbsent :=
  ⟨by decide, by decide, (nomatch ·), fun _ => rfl⟩

/-- A record that is consistent may replace another station's. -/
theorem PtSound.putPeer {s : State} {n : Station} {r : PeerRecord}
    (hown : validStation s.sc.number = true → n = s.sc.number → r = recordAbsent) (hr : recordConsistent r)
    (h : PtSound s) : PtSound (putPeer n r s) := by
  obtain ⟨habs, hrec⟩ := h
  refine ⟨fun hno => ?_, fun m => ?_⟩
  · simp only [putPeer_frame] at hno ⊢
    rw [peer_putPeer]
    split
    next hm => exact hown hno hm.1.symm
    · exact habs hno
  · rw [peer_putPeer]
    split
    · exact hr
    · exact hrec m

/-- A record in HEARD, LIVE or STALE runs its two deadlines and is consistent whatever its other fields. -/
theorem recordConsistent_of_heard {r : PeerRecord} (hst : heardPlus r = true) (hstale : r.staleAt.isSome = true)
    (hloss : r.lossAt.isSome = true) : recordConsistent r := by
  refine ⟨by simp [hst, hstale], by simp [hst, hloss], fun h => ?_, fun h => ?_⟩
  all_goals simp [heardPlus, h] at hst

/-- Other fields of such a record may change. -/
theorem recordConsistent.changed {r r' : PeerRecord} (hst : heardPlus r' = true) (hold : heardPlus r = true)
    (hstale : r'.staleAt = r.staleAt) (hloss : r'.lossAt = r.lossAt) (h : recordConsistent r) :
    recordConsistent r' := by
  obtain ⟨h1, h2, -⟩ := h
  exact recordConsistent_of_heard hst (by rw [hstale]; exact h1.2 hold) (by rw [hloss]; exact h2.2 hold)

theorem statusRecord_consistent (now : Nat) (rep : StatusReport) (r : PeerRecord) :
    recordConsistent (statusRecord now rep r) := by
  have hheard (p : Nat) (x : PeerRecord) : recordConsistent (heard now p x) := by
    refine recordConsistent_of_heard ?_ rfl rfl
    cases hx : x.state <;> simp [heardPlus, heard, heardState, hx]
  cases rep <;> exact hheard _ _

/-- The station's own number is no admitted sender. -/
theorem sender_ne_own {s : State} {f : Frame} (h : judge s f = .admitted) (hno : validStation s.sc.number = true) :
    f.sender ≠ s.sc.number := fun heq => (judge_admitted h).1 ⟨hno, heq⟩

theorem heard_of_admitted_cap {s : State} {f : Frame} (h : judge s f = .admitted) (hf : ofClass clsCap f = true) :
    heardPlus (peer s f.sender) = true := by
  obtain ⟨-, r, hr, -, -, hrec, -⟩ := judge_admitted h
  rw [rowOf_class hf (by decide), Option.some.injEq] at hr
  subst hr
  simp [classRow, clsCap, recordMeets] at hrec
  exact hrec.1

theorem heard_of_admitted_account {s : State} {f : Frame} (h : judge s f = .admitted)
    (hf : ofClass clsAccount f = true) : heardPlus (peer s f.sender) = true := by
  obtain ⟨-, r, hr, -, -, hrec, -⟩ := judge_admitted h
  rw [rowOf_class hf (by decide), Option.some.injEq] at hr
  subst hr
  simp [classRow, clsAccount, recordMeets] at hrec
  exact hrec.1

theorem peer_ptReset {s : State} (h : s.pt = ptReset) (n : Station) : peer s n = recordAbsent := by
  have hget (i : Nat) : ptReset.getD i recordAbsent = recordAbsent := by
    simp [ptReset, Vector.getD, Array.getD_eq_getD_getElem?, Array.getElem?_replicate]
    split <;> rfl
  rw [peer, h]
  split
  · exact hget _
  · rfl

theorem ptSound_reset {s : State} (h : s.pt = ptReset) : PtSound s := by
  refine ⟨fun _ => peer_ptReset h _, fun n => ?_⟩
  rw [peer_ptReset h]
  exact recordConsistent_absent

section
variable {s : State} {f : Frame}

/-- An admitted sender is another station, so its record may be replaced by any consistent one. -/
theorem PtSound.putSender {u : State} {r : PeerRecord} (hj : judge s f = .admitted) (hno : u.sc.number = s.sc.number)
    (hr : recordConsistent r) (h : PtSound u) : PtSound (Machine.putPeer f.sender r u) :=
  h.putPeer (fun hv heq => absurd (heq.trans hno) (sender_ne_own hj (hno ▸ hv))) hr

theorem ownStatus_ptSound (hj : judge s f = .admitted) (h : PtSound (taken s)) : PtSound (ownStatus f (taken s)) := by
  have hput : PtSound (Machine.putPeer f.sender
      (statusRecord (taken s).now (getStatus (capLimit (taken s)) f.payload) (peer (taken s) f.sender)) (taken s)) :=
    h.putSender hj rfl (statusRecord_consistent _ _ _)
  exact hput.of_same (by simp [ownStatus]) (by simp [ownStatus])

theorem ownCap_ptSound (hj : judge s f = .admitted) (hf : ofClass clsCap f = true) (h : PtSound (taken s)) :
    PtSound (ownCap f (taken s)) := by
  have hheard := heard_of_admitted_cap hj hf
  simp only [ownCap]
  repeat' split
  · exact h
  next w _ _ =>
    refine h.putSender hj rfl ((h.2 f.sender).changed ?_ hheard ?_ ?_)
    all_goals cases w
    all_goals first | rfl | exact hheard
  · exact h.of_same rfl rfl

theorem ownAccount_ptSound (hj : judge s f = .admitted) (hf : ofClass clsAccount f = true) (h : PtSound (taken s)) :
    PtSound (ownAccount f (taken s)) := by
  have hheard := heard_of_admitted_account hj hf
  have hadopt {u : State} (g : Bool) (n : Seq16) (p : PeerState) (hu : PtSound u) : PtSound (adoptLeg g n p u) :=
    hu.of_same (by simp) (by simp)
  simp only [ownAccount]
  split
  · exact hadopt _ _ _ (h.putSender hj rfl ((h.2 f.sender).changed hheard hheard rfl rfl))
  · exact hadopt _ _ _ h

end

theorem ptSound_keptByRows : KeptByRows PtSound :=
  ⟨fun _ h => h.of_same rfl rfl, fun _ _ h => h.of_same rfl rfl, fun _ _ _ h => h.of_same rfl rfl,
    fun _ _ h => h.of_same (by simp) rfl⟩

/-- The own record stands ABSENT, so a record in another state is another station's. -/
theorem PtSound.putLive {s u : State} {n : Station} {r : PeerRecord} (h : PtSound s) (hlive : (peer s n).state ≠ .absent)
    (hpt : u.pt = s.pt) (hno : u.sc.number = s.sc.number) (hr : recordConsistent r) : PtSound (Machine.putPeer n r u) := by
  refine (h.of_same hpt hno).putPeer (fun hv heq => ?_) hr
  have habs := h.1 (hno ▸ hv)
  rw [← hno, ← heq] at habs
  exact absurd (congrArg PeerRecord.state habs) hlive

theorem lostRecord_consistent (r : PeerRecord) : recordConsistent (lostRecord r) := by
  refine ⟨by simp [lostRecord, heardPlus], by simp [lostRecord, heardPlus], fun _ => ?_, (nomatch ·)⟩
  cases r.winchA <;> cases r.winchB <;> simp [lostRecord, *]

theorem exec_ptSound {c : Instr} {s t : State} (h : exec c s = .next t) (hs : PtSound s) : PtSound t := by
  by_cases hpt : StatePart.pt ∈ changedBy c
  · cases c with
    | powerOnReset n f =>
      cases h
      exact ptSound_reset rfl
    | lineReset n f =>
      obtain rfl | rfl | ⟨-, rfl⟩ := lineReset_cases h
      · exact hs
      · exact ptSound_reset rfl
      · exact ptSound_reset (enterJoining_frame _).2.2.2.2.2.2.1
    | status => exact ptSound_keptByRows.exec (c := .status) (by decide) (fun f ha _ => ownStatus_ptSound ha.2.2) h hs
    | cap => exact ptSound_keptByRows.exec (c := .cap) (by decide) (fun f ha hf => ownCap_ptSound ha.2.2 hf) h hs
    | account => exact ptSound_keptByRows.exec (c := .account) (by decide) (fun f ha hf => ownAccount_ptSound ha.2.2 hf) h hs
    | staleDeadline n =>
      rw [live_next h]
      split
      · split
        next hst =>
          unfold atExpiry
          split
          · exact hs
          · have hold : heardPlus (peer s n) = true := by obtain hst | hst := hst <;> simp [heardPlus, hst]
            refine hs.putLive ?_ rfl rfl ((hs.2 n).changed rfl hold rfl rfl)
            obtain hst | hst := hst <;> simp [hst]
        · exact hs
      · exact hs
    | lossDeadline n =>
      rw [live_next h]
      split
      · split
        next hst =>
          unfold atExpiry
          split
          · exact hs
          · have hput (u : State) (hu : PtSound u) : PtSound (vacateIf n u) := hu.of_same (by simp) (by simp)
            exact hput _ (hs.putLive (by simp [hst]) rfl rfl (lostRecord_consistent _))
        · exact hs
      · exact hs
    | _ => simp [changedBy] at hpt
  · have hno := exec_straps (fun n f hc => hpt (by simp [hc, changedBy])) (fun n f hc => hpt (by simp [hc, changedBy])) h
    exact hs.of_same (exec_onlyChanges h .pt hpt) hno.1

/-! ### Sensing -/

/-- The pulse counters and the channel records as O58 has them. -/
def SsqSound (s : State) : Prop := pulsesBounded s ∧ channelsConsistent s

theorem SsqSound.of_same {s t : State} (hpulses : t.ssq.pulses = s.ssq.pulses) (hheld : t.ssq.heldClear = s.ssq.heldClear)
    (hch : t.ssq.channels = s.ssq.channels) (hfit : t.sc.fitted = s.sc.fitted) (h : SsqSound s) : SsqSound t := by
  unfold SsqSound pulsesBounded channelsConsistent at *
  rwa [hpulses, hheld, hch, hfit]

theorem channelConsistent_goodWith (v : Int) : channelConsistent (goodWith v) :=
  ⟨by simp [goodWith], fun _ => rfl, Nat.zero_le _, Nat.zero_le _⟩

theorem validSample_consistent {r : ChannelRec} (v : Int) (h : channelConsistent r) :
    channelConsistent (validSample v r) := by
  obtain ⟨hv, hl, hi, -⟩ := h
  unfold validSample
  split
  case h_4 hst =>
    split
    · exact channelConsistent_goodWith v
    · exact ⟨hv, hl, hi, by simp only; omega⟩
  all_goals exact channelConsistent_goodWith v

/-- A good channel carries its last good value, so a suspect one has a value to carry. -/
theorem invalidSample_consistent {r : ChannelRec} (h : channelConsistent r) : channelConsistent (invalidSample r) := by
  obtain ⟨hv, hl, hi, hr⟩ := h
  unfold invalidSample
  split
  case h_3 hst =>
    have hval : r.value.isSome = true := hv.2 (.inl hst)
    refine ⟨by simp [← hl hval, hval], fun _ => rfl, ?_, hr⟩
    simp
  case h_4 hst => exact ⟨hv, hl, hi, Nat.zero_le _⟩
  all_goals
    split
    · exact ⟨by simp, (nomatch ·), Nat.zero_le _, Nat.zero_le _⟩
    · exact ⟨hv, hl, by simp only; omega, hr⟩

theorem channelOf_putChannel (x : Channels) (c k : Channel) (r : ChannelRec) :
    channelOf (putChannel x c r) k = if k = c then r else channelOf x k := by
  cases c <;> cases k <;> rfl

theorem convertFrom_ssqSound {i : Nat} {pins : ScanPins} {s : State} (h : SsqSound s) :
    SsqSound (convertFrom i pins s) := by
  unfold convertFrom
  split
  · exact h.of_same rfl rfl rfl rfl
  · exact h.of_same rfl rfl rfl rfl

theorem scanStart_ssqSound {s : State} (h : SsqSound s) : SsqSound (scanStart s) :=
  ⟨⟨by simp [scanStart], fun _ => rfl⟩, h.2⟩

theorem countPulse_ssqSound {s : State} (i : PulseInput) (hfit : s.sc.fitted.engine = true)
    (hheld : s.ssq.heldClear = false) (h : SsqSound s) :
    SsqSound { s with ssq := { s.ssq with pulses := countPulse i s.ssq.pulses } } := by
  obtain ⟨⟨hle, -⟩, hch⟩ := h
  refine ⟨⟨?_, ?_⟩, hch⟩
  · simp only [List.forall_mem_cons, List.not_mem_nil, false_implies, implies_true, and_true] at hle ⊢
    cases i <;> simp only [countPulse, onePulse] <;> omega
  · simp [hfit, hheld]

theorem ssqSound_reset {s : State} {scan : ScanState} (h : s.ssq = ssqReset scan) : SsqSound s := by
  unfold SsqSound pulsesBounded channelsConsistent
  rw [h]
  refine ⟨⟨by simp [ssqReset, countsZero], fun _ => rfl⟩, fun c => ?_⟩
  have hch : channelOf (ssqReset scan).channels c = channelReset := by cases c <;> rfl
  rw [hch]
  exact ⟨by decide, fun _ => rfl, by decide, by decide⟩

theorem enterJoining_ssqSound {s : State} (h : SsqSound s) : SsqSound (enterJoining s) := by
  have hssq : (enterJoining s).ssq = (startJoining s).ssq := by simp [enterJoining]
  exact h.of_same (by rw [hssq]; rfl) (by rw [hssq]; rfl) (by rw [hssq]; rfl) (by rw [enterJoining_sc])

theorem ssqSound_keptByRows : KeptByRows SsqSound :=
  ⟨fun _ h => h, fun _ _ h => h, fun _ _ _ h => h, fun _ _ h => h.of_same (by simp) (by simp) (by simp) rfl⟩

theorem exec_ssqSound {c : Instr} {s t : State} (h : exec c s = .next t) (hs : SsqSound s) : SsqSound t := by
  by_cases hssq : StatePart.ssq ∈ changedBy c
  · cases c with
    | powerOnReset n f =>
      cases h
      exact ssqSound_reset rfl
    | lineReset n f =>
      have hreset : SsqSound (lineResetUnits n f s) := ssqSound_reset rfl
      obtain rfl | rfl | ⟨-, rfl⟩ := lineReset_cases h
      · exact hs
      · exact hreset
      · exact enterJoining_ssqSound hreset
    | commission =>
      refine ssqSound_keptByRows.exec (by decide) (fun f _ _ hu => ?_) h hs
      obtain ⟨c, x, hc, ht⟩ | ⟨c, hc, ht⟩ := ownCommission_commissioned f (taken s)
      · rw [ownerOf, ht]
        exact SsqSound.of_same (s := taken s) rfl rfl rfl hc.fitted hu
      · rw [ownerOf, ht]
        exact enterJoining_ssqSound (SsqSound.of_same (s := taken s) rfl rfl rfl hc.fitted hu)
    | scanTrigger pins =>
      obtain rfl | ⟨n, -, -, rfl⟩ := expiry_cases (live_next h)
      · exact hs
      · have hset : SsqSound
            { reach n s with ssq := { (reach n s).ssq with controlTimer := some (n + ms 100) } } :=
          hs.of_same rfl rfl rfl rfl
        unfold trigger
        split
        · exact convertFrom_ssqSound (scanStart_ssqSound hset)
        · exact ssqSound_keptByRows.count _ _ hset
        · exact ssqSound_keptByRows.count _ _ hset
        · exact hset
    | pulseEdge i =>
      rw [live_next h]
      repeat' split
      next hcounts =>
        simp only [Bool.and_eq_true, Bool.not_eq_true'] at hcounts
        exact countPulse_ssqSound i hcounts.1 hcounts.2 hs
      all_goals exact hs
    | conversionEnd raw pins =>
      change execConversionEnd raw pins s = .next t at h
      rw [live_next h]
      split
      · split
        next ch _ =>
          refine convertFrom_ssqSound ⟨hs.1, fun k => ?_⟩
          simp only [channelOf_putChannel]
          split
          · unfold channelStep
            simp only
            split
            · exact validSample_consistent _ (hs.2 ch)
            · exact invalidSample_consistent (hs.2 ch)
          · exact hs.2 k
        all_goals exact hs
      · exact hs
    | interruptedConversionEnd =>
      change execInterruptedConversionEnd s = .next t at h
      rw [live_next h]
      repeat' split
      all_goals exact hs.of_same rfl rfl rfl rfl
    | _ => simp [changedBy] at hssq
  · have hfit := exec_straps (fun n f hc => hssq (by simp [hc, changedBy])) (fun n f hc => hssq (by simp [hc, changedBy])) h
    have hsame : t.ssq = s.ssq := exec_onlyChanges h .ssq hssq
    exact hs.of_same (by rw [hsame]) (by rw [hsame]) (by rw [hsame]) hfit.2

/-- Settles O58: TBI's record, the peer records and SSQ's records each by what the commands keep of them. -/
theorem stepKeepsTablesAndLine : Obligations.StepKeepsTablesAndLine := by
  intro s t ⟨hown, hrec, hpulses, hch, hcount, hline⟩ hstep
  have hpt : PtSound t :=
    step_keeps (fun _ _ h => h) (fun _ h => h) (fun _ _ _ => exec_ptSound) ⟨hown, hrec⟩ hstep
  have hssq : SsqSound t :=
    step_keeps (fun _ _ h => h) (fun _ h => h) (fun _ _ _ => exec_ssqSound) ⟨hpulses, hch⟩ hstep
  have htbi : TbiSound t.tbi :=
    step_keeps (P := fun s => TbiSound s.tbi) (fun _ _ h => h) (fun _ h => h) (fun _ _ _ => exec_tbiSound)
      ((tbiSound_iff s).2 ⟨hcount, hline⟩) hstep
  exact ⟨hpt.1, hpt.2, hssq.1, hssq.2, (tbiSound_iff t).1 htbi⟩

end Sys2Proof.Machine
end

section
/-! PROOFS. What every step keeps of the deliveries, the set-point, the gear and the rudder (R42, R50 to R66, R68 to R84, R161). -/

namespace Sys2Proof.Machine

open Sys2Proof

/-! ### Work that latches alarms at most -/

/-- Of TAU's record only latched alarms may change. -/
def LatchesOnly (s t : State) : Prop := t.tau = { s.tau with latched := t.tau.latched }

namespace LatchesOnly

theorem refl (s : State) : LatchesOnly s s := rfl

theorem of_eq {s t : State} (h : t.tau = s.tau) : LatchesOnly s t := by
  unfold LatchesOnly
  rw [h]

theorem trans {s t u : State} (h : LatchesOnly s t) (h' : LatchesOnly t u) : LatchesOnly s u := by
  unfold LatchesOnly at *
  rw [h', h]

theorem latch {s t : State} (h : LatchesOnly s t) : t.tau.latch = s.tau.latch := by rw [h]

theorem causes {s t : State} (h : LatchesOnly s t) : t.tau.causes = s.tau.causes := by rw [h]

theorem repeatTimer {s t : State} (h : LatchesOnly s t) : t.tau.repeatTimer = s.tau.repeatTimer := by rw [h]

end LatchesOnly

theorem onLatched_latchesOnly (f : Latched → Latched) (s : State) : LatchesOnly s (onLatched f s) := rfl

theorem stuChange_latchesOnly (s : State) : LatchesOnly s (stuChange s) := by
  unfold stuChange
  split <;> rfl

theorem fauJoin_latchesOnly (s : State) : LatchesOnly s (fauJoin s) := by
  unfold fauJoin
  split <;> rfl

theorem stuStop_latchesOnly (s : State) : LatchesOnly s (stuStop s) := by
  unfold stuStop
  repeat' split
  all_goals rfl

theorem fauScan_latchesOnly (m : SampleSet) (s : State) : LatchesOnly s (fauScan m s) := by
  unfold fauScan
  split
  · exact .refl s
  · have hwindow : LatchesOnly s (fauWindow m s) := by
      unfold fauWindow
      split
      · exact .refl s
      · exact onLatched_latchesOnly _ _
    exact hwindow.trans (.of_eq (by simp))

theorem reconcile_latchesOnly (s : State) : LatchesOnly s (reconcile s) := by
  unfold reconcile
  split
  · exact onLatched_latchesOnly _ _
  · rfl

/-- The commands outside the frame rows that latch alarms at most. -/
def latchingRows (c : Instr) : Prop :=
  c ∈ [Instr.tsuScanCompletion, .fauScanCompletion, .rundownTimeout, .jamTimerExpiry, .steerStopActive,
      .accountTimerExpiry]
    ∨ ∃ w, c = .takeupLimitExpiry w

theorem tsuScan_latchesOnly (n : Nat) (s : State) : LatchesOnly s (tsuScan n s) := by
  unfold tsuScan
  split <;> rfl

theorem atExpiry_latchesOnly {timer : Option Nat} {f : Nat → State → State} {s : State}
    (hf : ∀ n u, LatchesOnly u (f n u)) : LatchesOnly s (atExpiry timer f s) := by
  obtain ⟨-, h⟩ | ⟨n, -, h⟩ := atExpiry_cases timer f s
  · rw [h]; exact .refl s
  · rw [h]; exact hf n _

theorem exec_latchesOnly {c : Instr} {s t : State} (hc : latchingRows c) (h : exec c s = .next t) :
    LatchesOnly s t := by
  have hlive {f : State → State} (ht : live f s = .next t) (hf : LatchesOnly s (f s)) : LatchesOnly s t := by
    rw [live_next ht]
    split
    · exact hf
    · exact .refl s
  simp only [latchingRows, List.mem_cons, List.not_mem_nil, or_false] at hc
  obtain (rfl | rfl | rfl | rfl | rfl | rfl) | ⟨w, rfl⟩ := hc
  · change execTsuScanCompletion s = .next t at h
    refine hlive h ?_
    repeat' split
    · exact tsuScan_latchesOnly _ _
    all_goals exact .refl s
  · change execFauScanCompletion s = .next t at h
    refine hlive h ?_
    repeat' split
    · exact fauScan_latchesOnly _ _
    all_goals exact .refl s
  · change execRundownTimeout s = .next t at h
    refine hlive h ?_
    split
    · exact atExpiry_latchesOnly fun _ _ => rfl
    all_goals exact .refl s
  · refine hlive h ?_
    split
    · exact atExpiry_latchesOnly fun _ _ => rfl
    · exact .refl s
  · change execSteerStopActive s = .next t at h
    refine hlive h ?_
    simp only
    repeat' split
    · exact .refl s
    · exact stuStop_latchesOnly _
    · exact .refl s
  · refine hlive h (atExpiry_latchesOnly fun n u => ?_)
    have hrec (x : Fau) : LatchesOnly u (reconcile { u with fau := x }) := reconcile_latchesOnly { u with fau := x }
    simp only
    split
    · exact hrec _
    · exact hrec _
  · refine hlive h ?_
    split
    · exact atExpiry_latchesOnly fun _ _ => (LatchesOnly.of_eq (by simp)).trans (onLatched_latchesOnly _ _)
    · exact .refl s

/-! ### Deliveries -/

/-- Every unit's mark of a waiting delivery that stands in `d` stands in `e`; TAU reads at every station (R161). -/
def dueFewer (d e : Due) : Prop :=
  (d.hcu = true → e.hcu = true) ∧ (d.tsu = true → e.tsu = true) ∧ (d.stu = true → e.stu = true)
    ∧ (d.cu = true → e.cu = true) ∧ (d.fau = true → e.fau = true)

theorem dueFewer.refl (d : Due) : dueFewer d d := ⟨id, id, id, id, id⟩

/-- A scan completion delivers to the units whose machinery is fitted (R161). -/
theorem convertFrom_due (i : Nat) (pins : ScanPins) (s : State) :
    (convertFrom i pins s).due = s.due ∨ (convertFrom i pins s).due = deliveries s.sc.fitted := by
  unfold convertFrom
  split
  · exact .inl rfl
  · exact .inr rfl

/-- A command takes marks away, drops them all, or sets those of the fitted machinery. -/
theorem exec_due {c : Instr} {s t : State} (h : exec c s = .next t) :
    (t.sc.fitted = s.sc.fitted ∧ dueFewer t.due s.due) ∨ t.due = dueNone ∨ t.due = deliveries t.sc.fitted := by
  have hsame : s.sc.fitted = s.sc.fitted ∧ dueFewer s.due s.due := ⟨rfl, .refl _⟩
  have hscan {i : Nat} {pins : ScanPins} {u : State} (hsc : u.sc = s.sc) (hdue : u.due = s.due) :
      ((convertFrom i pins u).sc.fitted = s.sc.fitted ∧ dueFewer (convertFrom i pins u).due s.due)
        ∨ (convertFrom i pins u).due = dueNone
        ∨ (convertFrom i pins u).due = deliveries (convertFrom i pins u).sc.fitted := by
    obtain hd | hd := convertFrom_due i pins u
    · exact .inl ⟨by simp [hsc], by rw [hd, hdue]; exact .refl _⟩
    · exact .inr (.inr (by simp [hd]))
  by_cases hdue : StatePart.due ∈ changedBy c
  · cases c with
    | powerOnReset n f =>
      cases h
      exact .inr (.inl rfl)
    | lineReset n f =>
      obtain rfl | rfl | ⟨-, rfl⟩ := lineReset_cases h
      · exact .inl hsame
      · exact .inr (.inl rfl)
      · exact .inr (.inl (by simp [lineResetUnits, resetUnits]))
    | scanTrigger pins =>
      obtain rfl | ⟨n, -, -, rfl⟩ := expiry_cases (live_next h)
      · exact .inl hsame
      · unfold trigger
        split
        · exact hscan rfl rfl
        all_goals exact .inl hsame
    | conversionEnd raw pins =>
      change execConversionEnd raw pins s = .next t at h
      rw [live_next h]
      repeat' split
      · exact hscan rfl rfl
      all_goals exact .inl hsame
    | hcuScanCompletion =>
      change execHcuScanCompletion s = .next t at h
      rw [live_next h]
      repeat' split
      · exact .inl ⟨by simp, by simp [dueFewer]⟩
      all_goals exact .inl hsame
    | tsuScanCompletion =>
      change execTsuScanCompletion s = .next t at h
      rw [live_next h]
      repeat' split
      · exact .inl ⟨by simp, by simp [dueFewer]⟩
      all_goals exact .inl hsame
    | stuScanCompletion =>
      change execStuScanCompletion s = .next t at h
      rw [live_next h]
      repeat' split
      · exact .inl ⟨by simp, by simp [dueFewer]⟩
      all_goals exact .inl hsame
    | cuScanCompletion =>
      change execCuScanCompletion s = .next t at h
      rw [live_next h]
      repeat' split
      · exact .inl ⟨by simp, by simp [dueFewer]⟩
      all_goals exact .inl hsame
    | fauScanCompletion =>
      change execFauScanCompletion s = .next t at h
      rw [live_next h]
      repeat' split
      · exact .inl ⟨by simp, by simp [dueFewer]⟩
      all_goals exact .inl hsame
    | tauScanCompletion =>
      change execTauScanCompletion s = .next t at h
      rw [live_next h]
      repeat' split
      · exact .inl ⟨by simp, by simp [dueFewer]⟩
      all_goals exact .inl hsame
    | _ => simp [changedBy] at hdue
  · have hfit := exec_straps (fun n f hc => hdue (by simp [hc, changedBy])) (fun n f hc => hdue (by simp [hc, changedBy])) h
    have hsame : t.due = s.due := exec_onlyChanges h .due hdue
    exact .inl ⟨hfit.2, by rw [hsame]; exact .refl _⟩

theorem exec_deliveriesFitted {c : Instr} {s t : State} (h : exec c s = .next t) (hs : deliveriesFitted s) :
    deliveriesFitted t := by
  obtain ⟨hfit, h1, h2, h3, h4, h5⟩ | hnone | hnew := exec_due h
  · obtain ⟨hhcu, htsu, hstu, hcu, hfau⟩ := hs
    unfold deliveriesFitted
    rw [hfit]
    exact ⟨hhcu ∘ h1, htsu ∘ h2, hstu ∘ h3, hcu ∘ h4, hfau ∘ h5⟩
  · simp [deliveriesFitted, hnone, dueNone]
  · simp [deliveriesFitted, hnew, deliveries]

/-! ### The set-point and the gear -/

/-- The set-point lies within A_own and has a sign that the gear allows (R52, R54). -/
def SpFits (t : Tsu) : Prop := t.sp.natAbs ≤ t.aOwn ∧ gearAllows t.gear t.sp

theorem gearAllows_zero (g : GearState) : gearAllows g 0 := by
  unfold gearAllows
  repeat' split
  all_goals simp

theorem spFits_of_zero {t : Tsu} (h : t.sp = 0) : SpFits t := by
  refine ⟨by simp [h], ?_⟩
  rw [h]
  exact gearAllows_zero t.gear

/-- A gear that allows a set-point allows one of the same sign, or 0. -/
theorem gearAllows.of_sign {g : GearState} {x y : Int} (hpos : 0 ≤ x → 0 ≤ y) (hneg : x ≤ 0 → y ≤ 0)
    (h : gearAllows g x) : gearAllows g y := by
  unfold gearAllows at *
  split at h
  all_goals first | exact hpos h | exact hneg h | exact le_antisymm (hneg h.le) (hpos h.ge)

/-- The sign of a set-point cut to A_own stays (R52). -/
theorem gearAllows_cutSp {g : GearState} {sp : Int} (a : Nat) (h : gearAllows g sp) : gearAllows g (cutSp a sp) :=
  h.of_sign (by unfold cutSp clampInt; omega) (by unfold cutSp clampInt; omega)

theorem powerStep_spFits (c : P1) (st : StationState) (b : Bool) {t : Tsu} (h : gearAllows t.gear t.sp) :
    SpFits (powerStep c st b t) :=
  ⟨natAbs_clampInt_symm_le _ _, gearAllows_cutSp _ h⟩

/-- The condition step leaves set-point, gear and A_own (R61, R62). -/
theorem condStep_keeps (c : P1) (n : Nat) (t : Tsu) :
    (condStep c n t).sp = t.sp ∧ (condStep c n t).gear = t.gear ∧ (condStep c n t).aOwn = t.aOwn := by
  have hlag : (lagStep c n t).sp = t.sp ∧ (lagStep c n t).gear = t.gear ∧ (lagStep c n t).aOwn = t.aOwn := by
    simp only [lagStep]
    repeat' split
    all_goals exact ⟨rfl, rfl, rfl⟩
  simp only [condStep]
  repeat' split
  all_goals first | exact ⟨rfl, rfl, rfl⟩ | exact hlag

section
variable {r : Ramp} {target sp : Int}

/-- The ramp stays between the set-point, the target and 0 (R50). -/
theorem natAbs_rampStep_le {a : Nat} (htarget : target.natAbs ≤ a) (hsp : sp.natAbs ≤ a) :
    (rampStep r target sp).natAbs ≤ a := by
  unfold rampStep
  split_ifs <;> omega

theorem rampStep_nonneg (htarget : 0 ≤ target) (hsp : 0 ≤ sp) : 0 ≤ rampStep r target sp := by
  unfold rampStep
  split_ifs <;> omega

theorem rampStep_nonpos (htarget : target ≤ 0) (hsp : sp ≤ 0) : rampStep r target sp ≤ 0 := by
  unfold rampStep
  split_ifs <;> omega

/-- A ramp toward 0 or toward a target of the gear keeps the sign that the gear allows (R50, R54). -/
theorem gearAllows_rampStep {g : Gear} (hg : g ≠ .neutral) (htarget : target = 0 ∨ gearOf target = g)
    (h : gearAllows (.at g) sp) : gearAllows (.at g) (rampStep r target sp) := by
  unfold gearOf at htarget
  cases g with
  | neutral => exact absurd rfl hg
  | ahead =>
    refine rampStep_nonneg ?_ h
    split_ifs at htarget <;> simp_all
    omega
  | astern =>
    refine rampStep_nonpos ?_ h
    split_ifs at htarget <;> simp_all

end

theorem rundownStep_spFits {c : P1} {i : GearInputs} {g : Gear} {t : Tsu} (htarget : i.target.natAbs ≤ t.aOwn)
    (hsp : t.sp.natAbs ≤ t.aOwn) (h : gearAllows (.at g) t.sp) : SpFits (rundownStep c i g t) := by
  have hback {g : Gear} (hg : g ≠ .neutral) (h : gearAllows (.at g) t.sp) : SpFits (rundownStep c i g t) := by
    have hzero : (rampStep i.ramp 0 t.sp).natAbs ≤ t.aOwn := natAbs_rampStep_le (Nat.zero_le _) hsp
    have hallows := gearAllows_rampStep (r := i.ramp) hg (.inl rfl) h
    cases g with
    | neutral => exact absurd rfl hg
    | ahead | astern =>
      unfold rundownStep
      simp only
      repeat' split
      next hof => exact ⟨natAbs_rampStep_le htarget hsp, gearAllows_rampStep hg (.inr hof) h⟩
      next hstop => exact spFits_of_zero hstop.1
      · exact ⟨hzero, hallows⟩
  cases g with
  | neutral =>
    unfold rundownStep
    simp only
    repeat' split
    all_goals exact spFits_of_zero rfl
  | ahead => exact hback (by decide) h
  | astern => exact hback (by decide) h

/-- The gear rules keep the set-point within A_own and of a sign that the gear allows (R50, R55 to R57). -/
theorem gearStep_spFits {c : P1} {i : GearInputs} {t : Tsu} (htarget : i.target.natAbs ≤ t.aOwn) (h : SpFits t) :
    SpFits (gearStep c i t) := by
  obtain ⟨hsp, hallows⟩ := h
  have hzero : (rampStep i.ramp 0 t.sp).natAbs ≤ t.aOwn := natAbs_rampStep_le (Nat.zero_le _) hsp
  unfold gearStep
  split
  next g hg =>
    have hat : gearAllows (.at g) t.sp := hg ▸ hallows
    repeat' split
    · exact spFits_of_zero rfl
    next hto hne => exact ⟨natAbs_rampStep_le htarget hsp, by rw [hg]; exact gearAllows_rampStep hne hto hat⟩
    · exact spFits_of_zero rfl
    next hne => exact ⟨hzero, by rw [hg]; exact gearAllows_rampStep hne (.inl rfl) hat⟩
    · exact rundownStep_spFits htarget hsp hat
  next g x hg =>
    have hat : gearAllows (.at g) t.sp := by
      rw [hg] at hallows
      cases g <;> exact hallows
    exact rundownStep_spFits htarget hsp hat
  · exact spFits_of_zero rfl
  · exact spFits_of_zero rfl

theorem tripGear_sp (t : Tsu) : (tripGear t).sp = 0 := by
  unfold tripGear
  split <;> rfl

theorem natAbs_shareTarget_le (c : P1) (i : ShareInputs) : (shareTarget c i).natAbs ≤ i.aOwn := by
  have hle : (clampInt 0 i.aOwn (baseShare c i + turnAssist c i)).natAbs ≤ i.aOwn := by
    unfold clampInt
    omega
  rw [shareTarget, Int.natAbs_mul]
  have hsign : i.d.sign.natAbs ≤ 1 := by
    rw [Int.natAbs_sign]
    split <;> omega
  exact (Nat.mul_le_mul hsign hle).trans_eq (Nat.one_mul _)

/-- TSU's record as O56 has it, for SC's record and the trip latch. -/
structure TsuSound (c : Sc) (latch : Bool) (t : Tsu) : Prop where
  fits : SpFits t
  resting : working c.station = false → t.sp = 0
  tripped : latch = true → t.sp = 0
  unfitted : c.fitted.engine = false → t.sp = 0 ∧ t.gear = .at .neutral

/-- A set-point of 0 is sound at an ENGINE-fitted station. -/
theorem tsuSound_of_zero {c : Sc} {latch : Bool} {t : Tsu} (hfit : c.fitted.engine = true) (h : t.sp = 0) :
    TsuSound c latch t :=
  ⟨spFits_of_zero h, fun _ => h, fun _ => h, fun hf => absurd (hfit ▸ hf) (by decide)⟩

/-- The thrust conditions on a state. -/
def ThrustSound (s : State) : Prop := TsuSound s.sc s.tau.latch s.tsu

theorem thrustSound_iff (s : State) :
    ThrustSound s ∧ (s.powered = true → gearInStep s) ↔ setPointBounded s ∧ gearConsistent s := by
  constructor
  · rintro ⟨⟨⟨hle, hallows⟩, hrest, htrip, hfit⟩, hgear⟩
    exact ⟨⟨hle, hrest, htrip, fun hf => (hfit hf).1⟩, hallows, hgear, fun hf => (hfit hf).2⟩
  · rintro ⟨⟨hle, hrest, htrip, hsp⟩, hallows, hgear, hat⟩
    exact ⟨⟨⟨hle, hallows⟩, hrest, htrip, fun hf => ⟨hsp hf, hat hf⟩⟩, hgear⟩

theorem ThrustSound.of_same {s t : State} (hst : working t.sc.station = false → working s.sc.station = false)
    (hfit : t.sc.fitted = s.sc.fitted) (hlatch : t.tau.latch = true → s.tau.latch = true) (htsu : t.tsu = s.tsu)
    (h : ThrustSound s) : ThrustSound t := by
  obtain ⟨hsp, hrest, htrip, hunfit⟩ := h
  unfold ThrustSound
  rw [htsu]
  exact ⟨hsp, hrest ∘ hst, htrip ∘ hlatch, by rw [hfit]; exact hunfit⟩

theorem ThrustSound.commit {s : State} {t : Tsu} (h : TsuSound s.sc s.tau.latch t) : ThrustSound (commitTsu t s) := h

theorem tsuScan_thrustSound {n : Nat} {s : State} (hfit : s.sc.fitted.engine = true) (h : ThrustSound s) :
    ThrustSound (tsuScan n s) := by
  have hcond : gearAllows (condStep (cfg1 s) n s.tsu).gear (condStep (cfg1 s) n s.tsu).sp := by
    obtain ⟨hsp, hgear, -⟩ := condStep_keeps (cfg1 s) n s.tsu
    rw [hsp, hgear]
    exact h.fits.2
  have hworking {t : Tsu} (hw : working s.sc.station = true) (hsp : SpFits t) (htrip : s.tau.latch = true → t.sp = 0) :
      TsuSound s.sc s.tau.latch t :=
    ⟨hsp, fun hr => absurd (hw ▸ hr) (by decide), htrip, fun hf => absurd (hfit ▸ hf) (by decide)⟩
  unfold tsuScan
  split
  next hst =>
    refine hworking (t := tsuRun s n) (by rw [hst]; rfl) ?_ fun hl => ?_
    · unfold tsuRun
      simp only
      split
      · exact spFits_of_zero (tripGear_sp _)
      · refine gearStep_spFits ?_ (powerStep_spFits _ _ _ hcond)
        exact natAbs_shareTarget_le _ (shareInputs s _)
    · simp only [tsuRun, hl, if_true, dutyStep, tripGear_sp]
  next hst =>
    refine hworking (t := tsuHold s n) (by rw [hst]; rfl) ?_ fun hl => ?_
    · unfold tsuHold
      simp only
      split
      · exact spFits_of_zero (tripGear_sp _)
      · exact gearStep_spFits (Nat.zero_le _) (powerStep_spFits _ _ _ hcond)
    · simp only [tsuHold, hl, if_true, dutyStep, tripGear_sp]
  · exact .commit (tsuSound_of_zero hfit (clampInt_symm_zero _))
  · exact h
  · exact h

/-- A change of station state cuts the set-point to the new A_own (R43, R52). -/
theorem tsuChange_thrustSound {s : State} (h : ThrustSound s) : ThrustSound (tsuChange s) := by
  have ⟨⟨_, hallows⟩, hrest, htrip, _⟩ := h
  have hcut {a : Nat} {sp : Int} (hsp : sp = 0) : cutSp a sp = 0 := by rw [hsp]; exact clampInt_symm_zero a
  unfold tsuChange
  split
  next hfit =>
    exact .commit ⟨powerStep_spFits _ _ _ hallows, fun hst => hcut (hrest hst), fun hl => hcut (htrip hl),
      fun hf => absurd (hfit ▸ hf) (by decide)⟩
  next => exact h

/-- The trip latch takes the set-point to 0 at once (R63). -/
theorem tsuTrip_thrustSound {s u : State} (hsc : u.sc = s.sc) (htsu : u.tsu = s.tsu) (h : ThrustSound s) :
    ThrustSound (tsuTrip u) := by
  unfold tsuTrip
  split
  next hfit => exact .commit (tsuSound_of_zero hfit (tripGear_sp _))
  next hfit =>
    obtain ⟨hsp, hrest, -, hunfit⟩ := h
    have hno : s.sc.fitted.engine = false := by simpa [hsc] using hfit
    refine ⟨?_, ?_, fun _ => ?_, fun _ => ?_⟩
    all_goals rw [htsu]
    · exact hsp
    · exact fun _ => (hunfit hno).1
    · exact (hunfit hno).1
    · exact hunfit hno

theorem setLatch_thrustSound (r : TripRecord) {s : State} (h : ThrustSound s) : ThrustSound (setLatch r s) := by
  unfold setLatch
  split
  next hl => exact h.of_same (s := s) id rfl (fun _ => hl) rfl
  next =>
    have htrip := tsuTrip_thrustSound (s := s) (u := { s with tau := { s.tau with latch := true, record := some r } }) rfl rfl h
    exact htrip.of_same (by simp) (by simp) (by simp) (by simp)

theorem beginCause_thrustSound (c : OwnCause) {s : State} (h : ThrustSound s) : ThrustSound (beginCause c s) := by
  unfold beginCause
  split
  · exact h
  · exact (setLatch_thrustSound _ h).of_same id rfl id rfl

theorem endCause_thrustSound (c : OwnCause) {s : State} (h : ThrustSound s) : ThrustSound (endCause c s) := by
  unfold endCause
  split
  · exact h.of_same id rfl id rfl
  · exact h

theorem partWinch_thrustSound (w : WinchId) {s : State} (h : ThrustSound s) : ThrustSound (partWinch w s) := by
  unfold partWinch
  exact beginCause_thrustSound _ (h.of_same (by simp) (by simp) (by simp [onLatched]) (by simp))

/-! ### A winch's scan completion, as a whole -/

/-- Work that leaves SC's, TSU's and TAU's records. -/
def LeavesTrip (s t : State) : Prop := t.sc = s.sc ∧ t.tsu = s.tsu ∧ t.tau = s.tau

/-- A winch at a scan completion leaves SC, TSU and TAU, or it parts after work that does (R92, R93, R95, R96). -/
theorem winchScan_leaves_or_parts (w : WinchId) (m : SampleSet) (s : State) :
    LeavesTrip s (winchScan w m s) ∨ ∃ u, LeavesTrip s u ∧ winchScan w m s = partWinch w u := by
  have hkept {t : State} (h : LeavesTrip s t) : LeavesTrip s t ∨ ∃ u, LeavesTrip s u ∧ t = partWinch w u := .inl h
  have hstored : LeavesTrip s (storeTension w (tensionOf m w) s) := by simp [LeavesTrip, storeTension]
  have hparts (u : State) (hu : u = storeTension w (tensionOf m w) s) :
      LeavesTrip s (partWinch w u) ∨ ∃ v, LeavesTrip s v ∧ partWinch w u = partWinch w v := .inr ⟨u, hu ▸ hstored, rfl⟩
  unfold winchScan
  split
  · simp only
    split
    · unfold scanTension
      split
      case h_8 =>
        simp only [holdingScan]
        repeat' split
        · exact hparts _ rfl
        all_goals exact hkept (by simp [LeavesTrip, setRun, storeTension])
      case h_9 =>
        simp only [overloadScan]
        repeat' split
        · exact hparts _ rfl
        all_goals exact hkept (by simp [LeavesTrip, setRun, easeInhibit, storeTension])
      case h_10 =>
        simp only [renderingScan]
        repeat' split
        · exact hparts _ rfl
        all_goals exact hkept (by simp [LeavesTrip, storeTension])
      case h_11 =>
        simp only [blindScan]
        repeat' split
        all_goals exact hkept (by simp [LeavesTrip, setRun, storeTension])
      case h_7 =>
        split
        all_goals exact hkept (by simp [LeavesTrip, storeTension])
      all_goals exact hkept hstored
    · unfold scanNoTension
      split
      all_goals exact hkept (by simp [LeavesTrip, setRun, storeTension])
  · exact hkept ⟨rfl, rfl, rfl⟩

theorem LeavesTrip.thrustSound {s t : State} (h : LeavesTrip s t) (hs : ThrustSound s) : ThrustSound t := by
  obtain ⟨hsc, htsu, htau⟩ := h
  exact hs.of_same (by rw [hsc]; exact id) (by rw [hsc]) (by rw [htau]; exact id) htsu

theorem winchScan_thrustSound (w : WinchId) (m : SampleSet) {s : State} (h : ThrustSound s) :
    ThrustSound (winchScan w m s) := by
  obtain hleaves | ⟨u, hu, hpart⟩ := winchScan_leaves_or_parts w m s
  · exact hleaves.thrustSound h
  · rw [hpart]
    exact partWinch_thrustSound w (hu.thrustSound h)

/-! ### The thrust conditions under the commands -/

/-- A station state that works, or one reached from a station at rest. -/
theorem ThrustSound.setStation {s : State} {st : StationState}
    (hst : working st = false → working s.sc.station = false) (h : ThrustSound s) : ThrustSound (setStation st s) :=
  h.of_same hst rfl id rfl

theorem ThrustSound.of_stuChange {s : State} (h : ThrustSound s) : ThrustSound (stuChange s) :=
  h.of_same (by simp) (by simp) (by rw [(stuChange_latchesOnly s).latch]; exact id) (by simp)

theorem ThrustSound.queueStatus {s : State} (h : ThrustSound s) : ThrustSound (queueStatus s) := h

theorem ThrustSound.cuRun {s : State} (h : ThrustSound s) : ThrustSound (cuRun s) :=
  h.of_same (by simp) (by simp) (by simp) (by simp)

theorem enterRun_thrustSound {s : State} (h : ThrustSound s) : ThrustSound (enterRun s) :=
  (tsuChange_thrustSound (h.setStation (st := .run) nofun)).of_stuChange.cuRun.queueStatus

theorem enterHold_thrustSound {s : State} (h : ThrustSound s) : ThrustSound (enterHold s) :=
  (tsuChange_thrustSound (h.setStation (st := .hold) nofun)).of_stuChange.queueStatus

theorem leaveHold_thrustSound {s : State} (h : ThrustSound s) : ThrustSound (leaveHold s) :=
  (tsuChange_thrustSound (h.setStation (st := .run) nofun)).of_stuChange.queueStatus

/-- JOINING is entered from LISTEN, with the set-point at 0. -/
theorem enterJoining_thrustSound {s : State} (hst : working s.sc.station = false) (h : ThrustSound s) :
    ThrustSound (enterJoining s) := by
  have hstart : ThrustSound (fauJoin (startJoining s)) :=
    h.of_same (fun _ => hst) (by simp [startJoining]) (by rw [(fauJoin_latchesOnly _).latch]; exact id) (by simp [startJoining])
  exact (tsuChange_thrustSound hstart).of_stuChange.queueStatus

theorem thrustSound_reset {s : State} (htsu : s.tsu = tsuReset) : ThrustSound s := by
  unfold ThrustSound
  rw [htsu]
  exact ⟨spFits_of_zero rfl, fun _ => rfl, fun _ => rfl, fun _ => ⟨rfl, rfl⟩⟩

/-- SAFE takes the set-point to 0 and the gear to NEUTRAL (R66). -/
theorem duplicateSeen_thrustSound {s : State} (h : ThrustSound s) : ThrustSound (duplicateSeen s) := by
  by_cases hfit : s.sc.fitted.engine = true
  · have htsu : (duplicateSeen s).tsu = tsuSafe s.tsu := if_pos hfit
    exact tsuSound_of_zero (c := (duplicateSeen s).sc) hfit (by rw [htsu]; rfl)
  · have htsu : (duplicateSeen s).tsu = s.tsu := if_neg hfit
    obtain ⟨hfits, -, -, hunfit⟩ := h
    rw [Bool.not_eq_true] at hfit
    obtain ⟨hsp, hgear⟩ := hunfit hfit
    unfold ThrustSound
    rw [htsu]
    exact ⟨hfits, fun _ => hsp, fun _ => hsp, fun _ => ⟨hsp, hgear⟩⟩

theorem thrustSound_keptByRows : KeptByRows ThrustSound :=
  ⟨fun _ h => h, fun _ _ h => h, fun _ _ _ h => h, fun _ _ => duplicateSeen_thrustSound⟩

theorem ownCommission_thrustSound {f : Frame} {s : State} (hst : s.sc.station = .listen) (h : ThrustSound s) :
    ThrustSound (ownCommission f s) := by
  obtain ⟨c, x, hc, ht⟩ | ⟨c, hc, ht⟩ := ownCommission_commissioned f s
  · rw [ht]
    exact ThrustSound.of_same (s := s) (by simp [hc.station]) hc.fitted id rfl h
  · rw [ht]
    refine enterJoining_thrustSound (by simp [hc.station, hst, working]) ?_
    exact ThrustSound.of_same (s := s) (by simp [hc.station]) hc.fitted id rfl h

theorem ownerOf_thrustSound {c : Instr} {f : Frame} {s : State} (hj : judge s f = .admitted)
    (hfits : frameFor c f = true) (h : ThrustSound (taken s)) : ThrustSound (ownerOf c f (taken s)) := by
  have hsame {t : State} (hsc : t.sc = (taken s).sc) (hlatch : t.tau.latch = true → (taken s).tau.latch = true)
      (htsu : t.tsu = (taken s).tsu) : ThrustSound t := h.of_same (by rw [hsc]; exact id) (by rw [hsc]) hlatch htsu
  cases c with
  | trip =>
    simp only [ownerOf, ownTrip]
    split
    · exact h
    · exact setLatch_thrustSound _ h
  | clearTrip =>
    simp only [ownerOf, ownClearTrip]
    repeat' split
    all_goals first | exact h | exact hsame rfl nofun rfl
  | ackAlarms =>
    simp only [ownerOf, ownAck]
    repeat' split
    · exact h
    · exact hsame (by simp) (by simp [onLatched]) (by simp)
    · exact hsame rfl id rfl
  | holdStation =>
    simp only [ownerOf, ownHold]
    repeat' split
    · exact h
    · exact h
    · exact enterHold_thrustSound h
  | releaseStation =>
    simp only [ownerOf, ownRelease]
    repeat' split
    · exact h
    · exact leaveHold_thrustSound h
    · exact h
  | coupleMakeFast | coupleRelease =>
    refine hsame (ownerOf_sc (by decide) f _) ?_ ?_
    all_goals
      simp only [ownerOf, ownCouple, makeFast, releaseFall, endCause]
      repeat' split
      all_goals simp
  | commission => exact ownCommission_thrustSound (station_of_admitted_commission hj hfits) h
  | _ => exact hsame (by simp [ownerOf]) (by simp [ownerOf]) (by simp [ownerOf])

/-- A shift is in flight at an ENGINE-fitted station only. -/
theorem ThrustSound.engine_of_shifting {s : State} {p : ShiftPhase} {g x : Gear} (hg : s.tsu.gear = .shifting p g x)
    (h : ThrustSound s) : s.sc.fitted.engine = true := by
  by_contra hno
  have hat := (h.unfitted (by simpa using hno)).2
  rw [hg] at hat
  cases hat

theorem exec_thrustSound {c : Instr} {s t : State} (hdue : deliveriesFitted s) (h : exec c s = .next t)
    (hs : ThrustSound s) : ThrustSound t := by
  have hsame {t : State} (hsc : SameStation s.sc t.sc) (hlatch : t.tau.latch = true → s.tau.latch = true)
      (htsu : t.tsu = s.tsu) : ThrustSound t := hs.of_same (by rw [hsc.station]; exact id) hsc.fitted hlatch htsu
  by_cases hrow : c ∈ frameRows
  · exact thrustSound_keptByRows.exec hrow (fun f ha => ownerOf_thrustSound ha.2.2) h hs
  by_cases hpart : StatePart.tsu ∈ changedBy c ∨ StatePart.tau ∈ changedBy c
  · cases c with
    | powerOnReset n f =>
      cases h
      exact thrustSound_reset rfl
    | lineReset n f =>
      have hreset : ThrustSound (lineResetUnits n f s) := thrustSound_reset rfl
      obtain rfl | rfl | ⟨-, rfl⟩ := lineReset_cases h
      · exact hs
      · exact hreset
      · exact enterJoining_thrustSound rfl hreset
    | joinTimerExpiry =>
      obtain rfl | ⟨d, -, -, rfl⟩ := expiry_cases (live_next h)
      · exact hs
      · exact enterRun_thrustSound (ThrustSound.of_same (s := s) id rfl id rfl hs)
    | tsuScanCompletion =>
      change execTsuScanCompletion s = .next t at h
      rw [live_next h]
      repeat' split
      next hd => exact tsuScan_thrustSound (hdue.2.1 hd) (hsame (.refl _) id rfl)
      all_goals exact hs
    | cuScanCompletion =>
      change execCuScanCompletion s = .next t at h
      rw [live_next h]
      repeat' split
      · exact winchScan_thrustSound .b _ (winchScan_thrustSound .a _ hs)
      all_goals exact hs
    | fauScanCompletion | jamTimerExpiry | steerStopActive | accountTimerExpiry =>
      have hlatch := (exec_latchesOnly (.inl (by decide)) h).latch
      exact hsame (.of_eq (exec_onlyChanges h .sc (by decide))) (by rw [hlatch]; exact id) (exec_onlyChanges h .tsu (by decide))
    | takeupLimitExpiry w =>
      have hlatch := (exec_latchesOnly (.inr ⟨w, rfl⟩) h).latch
      exact hsame (.of_eq (exec_onlyChanges h .sc (by simp [changedBy]))) (by rw [hlatch]; exact id)
        (exec_onlyChanges h .tsu (by simp [changedBy]))
    | tripRepeatExpiry =>
      change execTripRepeatExpiry s = .next t at h
      rw [live_next h]
      repeat' split
      · unfold atExpiry
        split
        · exact hs
        · exact hsame (.refl _) id rfl
      all_goals exact hs
    | tauScanCompletion =>
      change execTauScanCompletion s = .next t at h
      rw [live_next h]
      unfold tauScan
      repeat' split
      · exact beginCause_thrustSound _ hs
      · exact endCause_thrustSound _ hs
      all_goals exact hs
    | rundownTimeout =>
      change execRundownTimeout s = .next t at h
      rw [live_next h]
      split
      · split
        next g x hg =>
          have hfit := hs.engine_of_shifting hg
          unfold atExpiry
          split
          · exact hs
          · have hback : TsuSound s.sc s.tau.latch { s.tsu with gear := .at g, shiftTimer := none } := by
              obtain ⟨⟨hle, hallows⟩, hrest, htrip, -⟩ := hs
              rw [hg] at hallows
              exact ⟨⟨hle, by cases g <;> exact hallows⟩, hrest, htrip, fun hf => absurd (hfit ▸ hf) (by decide)⟩
            exact hback
        all_goals exact hs
      · exact hs
    | dwellExpiry =>
      change execDwellExpiry s = .next t at h
      rw [live_next h]
      split
      · split
        next g x hg =>
          have hfit := hs.engine_of_shifting hg
          have hsp : s.tsu.sp = 0 := by simpa [hg, gearAllows] using hs.fits.2
          unfold atExpiry
          split
          · exact hs
          · refine .commit (tsuSound_of_zero hfit ?_)
            split <;> exact hsp
        all_goals exact hs
      · exact hs
    | settleExpiry =>
      change execSettleExpiry s = .next t at h
      rw [live_next h]
      split
      · split
        next g x hg =>
          have hfit := hs.engine_of_shifting hg
          have hsp : s.tsu.sp = 0 := by simpa [hg, gearAllows] using hs.fits.2
          unfold atExpiry
          split
          · exact hs
          · exact .commit (tsuSound_of_zero hfit hsp)
        all_goals exact hs
      · exact hs
    | _ => first | exact absurd (by decide) hrow | simp [changedBy] at hpart
  · rw [not_or] at hpart
    have hsc : SameStation s.sc t.sc :=
      exec_sameStation hrow (fun n f hc => hpart.1 (by simp [hc, changedBy])) (fun n f hc => hpart.1 (by simp [hc, changedBy]))
        (fun hc => hpart.1 (by simp [hc, changedBy])) h
    exact hsame hsc (by rw [exec_onlyChanges h .tau hpart.2]; exact id) (exec_onlyChanges h .tsu hpart.1)

/-! ### The rudder -/

/-- STU's record as O56 has it, but for the responsive flag: no state but UNFITTED without RUDDER, one coil at most. -/
def StuSound (rudder : Bool) (x : Stu) : Prop :=
  (rudder = false → x.state = .unfitted) ∧ (x.reqPort = 0 ∨ x.reqStbd = 0)

/-- The rudder condition holds once STU's record has been replaced by a sound one: the responsive flag follows (R70). -/
theorem commitStu_rudderConsistent {x : Stu} {s : State} (h : StuSound s.sc.fitted.rudder x) :
    rudderConsistent (commitStu x s) :=
  ⟨by simp [commitStu], h⟩

theorem rudderConsistent.sound {s : State} (h : rudderConsistent s) : StuSound s.sc.fitted.rudder s.stu := h.2

theorem rudderConsistent.of_same {s t : State} (hst : t.sc.station = s.sc.station)
    (hfit : t.sc.fitted = s.sc.fitted) (hstu : t.stu = s.stu) (h : rudderConsistent s) : rudderConsistent t := by
  unfold rudderConsistent at *
  rwa [hst, hfit, hstu]

/-- At rest in a state that fits the machinery. -/
theorem standIn_sound {st : RudderState} {x : Stu} {b : Bool} (h : b = false → st = .unfitted) :
    StuSound b (standIn st x) := ⟨h, .inl rfl⟩

/-- With RUDDER every state fits. -/
theorem standIn_sound_of_fitted {st : RudderState} {x : Stu} {b : Bool} (hfit : b = true) : StuSound b (standIn st x) :=
  standIn_sound fun h => absurd (hfit ▸ h) (by decide)

theorem settle_sound {s : State} {x : Stu} {b : Bool} (hfit : b = true) (h : StuSound b x) :
    StuSound b (settle s x) := by
  unfold settle
  split
  · exact ⟨fun hf => absurd (hfit ▸ hf) (by decide), h.2⟩
  · exact standIn_sound_of_fitted hfit

/-- The two ends of the deadband exclude each other, so the loop asks for one coil at most (R74). -/
theorem closeLoop_sound {c : P2} {now : Nat} {angle v : Int} {p q : Bool} {x : Stu} {b : Bool} (h : StuSound b x) :
    StuSound b (closeLoop c now angle v p q x) := by
  refine ⟨h.1, ?_⟩
  simp only [closeLoop]
  split_ifs <;> first | exact .inl rfl | exact .inr rfl | omega

theorem scanTransition_sound {s : State} {m : SampleSet} {x : Stu} {b : Bool} (hfit : b = true) (h : StuSound b x) :
    StuSound b (scanTransition s m x) := by
  unfold scanTransition
  repeat' split
  all_goals first | exact h | exact standIn_sound_of_fitted hfit | exact settle_sound hfit h

theorem stuAfterScan_sound {s : State} {m : SampleSet} {b : Bool} (hfit : b = true) (h : StuSound b s.stu) :
    StuSound b (stuAfterScan s m) := by
  have hx : StuSound b (scanTransition s m { s.stu with latest := some m.rudder }) := scanTransition_sound hfit h
  unfold stuAfterScan
  simp only
  split
  · simp only [followStep]
    split
    · exact standIn_sound_of_fitted hfit
    · exact closeLoop_sound hx
  · exact ⟨hx.1, .inl rfl⟩
  · exact ⟨hx.1, .inl rfl⟩

theorem changeStu_sound {s : State} {x : Stu} {b : Bool} (hfit : b = true) (h : StuSound b x) :
    StuSound b (changeStu s x) := by
  unfold changeStu
  split
  all_goals first | exact settle_sound hfit h | exact h

/-- STU takes a change of station state; without RUDDER it is UNFITTED in every one (R68, R82). -/
theorem stuChange_rudderConsistent {s : State} (h : StuSound s.sc.fitted.rudder s.stu)
    (hunfit : s.sc.fitted.rudder = false → s.stu.responsive = false) : rudderConsistent (stuChange s) := by
  unfold stuChange
  split
  next hfit => exact commitStu_rudderConsistent (s := s) (changeStu_sound hfit h)
  next hfit =>
    rw [Bool.not_eq_true] at hfit
    exact ⟨by simp [hunfit hfit, h.1 hfit], h⟩

/-- Without RUDDER the responsive flag is clear. -/
theorem rudderConsistent.responsive {s : State} (h : rudderConsistent s) (hfit : s.sc.fitted.rudder = false) :
    s.stu.responsive = false := by
  obtain ⟨hresp, hun, -⟩ := h
  rw [← Bool.not_eq_true, hresp, hun hfit]
  simp

/-- A change of station state that STU takes last. -/
theorem rudderConsistent_of_change {s u : State} (hfit : u.sc.fitted = s.sc.fitted) (hstu : u.stu = s.stu)
    (h : rudderConsistent s) : rudderConsistent (stuChange u) :=
  stuChange_rudderConsistent (by rw [hfit, hstu]; exact h.sound) (by rw [hfit, hstu]; exact h.responsive)

theorem enterRun_rudderConsistent {s : State} (h : rudderConsistent s) : rudderConsistent (enterRun s) := by
  have hstu : rudderConsistent (stuChange (tsuChange (setStation .run s))) :=
    rudderConsistent_of_change (s := s) (by simp [setStation]) (by simp [setStation]) h
  exact hstu.of_same (by simp [enterRun]) (by simp [enterRun]) (by simp [enterRun])

theorem enterHold_rudderConsistent {s : State} (h : rudderConsistent s) : rudderConsistent (enterHold s) := by
  have hstu : rudderConsistent (stuChange (tsuChange (setStation .hold s))) :=
    rudderConsistent_of_change (s := s) (by simp [setStation]) (by simp [setStation]) h
  exact hstu.of_same (by simp [enterHold]) (by simp [enterHold]) (by simp [enterHold])

theorem leaveHold_rudderConsistent {s : State} (h : rudderConsistent s) : rudderConsistent (leaveHold s) := by
  have hstu : rudderConsistent (stuChange (tsuChange (setStation .run s))) :=
    rudderConsistent_of_change (s := s) (by simp [setStation]) (by simp [setStation]) h
  exact hstu.of_same (by simp [leaveHold]) (by simp [leaveHold]) (by simp [leaveHold])

theorem enterJoining_rudderConsistent {s : State} (h : rudderConsistent s) : rudderConsistent (enterJoining s) := by
  have hstu : rudderConsistent (stuChange (tsuChange (fauJoin (startJoining s)))) :=
    rudderConsistent_of_change (s := s) (by simp [startJoining]) (by simp [startJoining]) h
  exact hstu.of_same (by simp [enterJoining]) (by simp [enterJoining]) (by simp [enterJoining])

theorem rudderConsistent_reset {s : State} (hst : s.sc.station = .listen) (hstu : s.stu = stuReset s.sc.fitted.rudder) :
    rudderConsistent s := by
  refine ⟨?_, fun hf => ?_, .inl ?_⟩
  · simp [hst, hstu, stuReset]
  · simp [hstu, stuReset, hf]
  · simp [hstu, stuReset]

theorem duplicateSeen_rudderConsistent {s : State} (h : rudderConsistent s) : rudderConsistent (duplicateSeen s) := by
  have hresp := h.1
  have hsafe : StuSound s.sc.fitted.rudder (stuSafe s.stu) ∧ (stuSafe s.stu).responsive = false := by
    unfold stuSafe
    split
    next hun =>
      refine ⟨h.sound, ?_⟩
      rw [← Bool.not_eq_true, hresp, hun]
      simp
    next hun => exact ⟨⟨fun hf => absurd (h.sound.1 hf) hun, .inl rfl⟩, rfl⟩
  obtain ⟨hsound, hclear⟩ := hsafe
  have hstu : (duplicateSeen s).stu = stuSafe s.stu := rfl
  have hst : (duplicateSeen s).sc.station = .safe := rfl
  unfold rudderConsistent
  rw [hstu, hst, hclear]
  exact ⟨by simp, hsound⟩

theorem rudderConsistent_keptByRows : KeptByRows rudderConsistent :=
  ⟨fun _ h => h, fun _ _ h => h, fun _ _ _ h => h, fun _ _ => duplicateSeen_rudderConsistent⟩

/-- A JAMMED rudder is a fitted one. -/
theorem rudderConsistent.fitted {s : State} (h : rudderConsistent s) (hst : s.stu.state ≠ .unfitted) :
    s.sc.fitted.rudder = true := by
  by_contra hno
  exact hst (h.2.1 (by simpa using hno))

theorem stuAckJam_rudderConsistent {s : State} (h : rudderConsistent s) : rudderConsistent (stuAckJam s) := by
  unfold stuAckJam
  split
  next hj => exact commitStu_rudderConsistent (settle_sound (h.fitted (by simp [hj])) h.sound)
  next => exact h

theorem ownCommission_rudderConsistent {f : Frame} {s : State} (h : rudderConsistent s) :
    rudderConsistent (ownCommission f s) := by
  obtain ⟨c, x, hc, ht⟩ | ⟨c, hc, ht⟩ := ownCommission_commissioned f s
  · rw [ht]
    exact rudderConsistent.of_same (s := s) hc.station hc.fitted rfl h
  · rw [ht]
    exact enterJoining_rudderConsistent (rudderConsistent.of_same (s := s) hc.station hc.fitted rfl h)

theorem ownerOf_rudderConsistent {c : Instr} {f : Frame} {s : State} (h : rudderConsistent s) :
    rudderConsistent (ownerOf c f s) := by
  have hsame {t : State} (hsc : t.sc = s.sc) (hstu : t.stu = s.stu) : rudderConsistent t :=
    h.of_same (by rw [hsc]) (by rw [hsc]) hstu
  cases c with
  | ackAlarms =>
    simp only [ownerOf, ownAck]
    repeat' split
    · exact h
    · exact stuAckJam_rudderConsistent h
    · exact h
  | holdStation =>
    simp only [ownerOf, ownHold]
    repeat' split
    · exact h
    · exact h
    · exact enterHold_rudderConsistent h
  | releaseStation =>
    simp only [ownerOf, ownRelease]
    repeat' split
    · exact h
    · exact leaveHold_rudderConsistent h
    · exact h
  | coupleMakeFast | coupleRelease =>
    refine hsame (ownerOf_sc (by decide) f _) ?_
    simp only [ownerOf, ownCouple]
    repeat' split
    all_goals simp
  | commission => exact ownCommission_rudderConsistent h
  | _ => exact hsame (by simp [ownerOf]) (by simp [ownerOf])

theorem stuStop_rudderConsistent {s : State} (h : rudderConsistent s) (hfit : s.sc.fitted.rudder = true) :
    rudderConsistent (stuStop s) := by
  have hstop : rudderConsistent (commitStu (standIn .stopped s.stu) s) :=
    commitStu_rudderConsistent (standIn_sound_of_fitted hfit)
  unfold stuStop
  repeat' split
  all_goals first | exact hstop | exact h

theorem exec_rudderConsistent {c : Instr} {s t : State} (hdue : deliveriesFitted s) (h : exec c s = .next t)
    (hs : rudderConsistent s) : rudderConsistent t := by
  by_cases hrow : c ∈ frameRows
  · exact rudderConsistent_keptByRows.exec hrow (fun f _ _ => ownerOf_rudderConsistent) h hs
  by_cases hstu : StatePart.stu ∈ changedBy c
  · cases c with
    | powerOnReset n f =>
      cases h
      exact rudderConsistent_reset rfl rfl
    | lineReset n f =>
      have hreset : rudderConsistent (lineResetUnits n f s) := rudderConsistent_reset rfl rfl
      obtain rfl | rfl | ⟨-, rfl⟩ := lineReset_cases h
      · exact hs
      · exact hreset
      · exact enterJoining_rudderConsistent hreset
    | joinTimerExpiry =>
      obtain rfl | ⟨d, -, -, rfl⟩ := expiry_cases (live_next h)
      · exact hs
      · exact enterRun_rudderConsistent (rudderConsistent.of_same (s := s) rfl rfl rfl hs)
    | stuScanCompletion =>
      change execStuScanCompletion s = .next t at h
      rw [live_next h]
      unfold stuScan
      repeat' split
      next hd _ => exact commitStu_rudderConsistent (stuAfterScan_sound (hdue.2.2.1 hd) hs.sound)
      all_goals exact hs
    | jamTimerExpiry =>
      rw [live_next h]
      unfold atExpiry
      repeat' split
      · exact hs
      next hfol _ _ _ => exact commitStu_rudderConsistent (standIn_sound_of_fitted (hs.fitted (by simp [hfol])))
      all_goals exact hs
    | steerStopActive =>
      change execSteerStopActive s = .next t at h
      rw [live_next h]
      simp only
      repeat' split
      · exact hs
      next hfit => exact stuStop_rudderConsistent (rudderConsistent.of_same (s := s) rfl rfl rfl hs) hfit
      all_goals exact hs
    | _ => first | exact absurd (by decide) hrow | simp [changedBy] at hstu
  · have hsc : SameStation s.sc t.sc :=
      exec_sameStation hrow (fun n f hc => hstu (by simp [hc, changedBy])) (fun n f hc => hstu (by simp [hc, changedBy]))
        (fun hc => hstu (by simp [hc, changedBy])) h
    exact hs.of_same hsc.station hsc.fitted (exec_onlyChanges h .stu hstu)

/-! ### The gear request -/

/-- A powered part requests the gear of its gear state. -/
def GearRequested (s : State) : Prop := s.powered = true → gearInStep s

theorem gearRequested_keptByRows : KeptByRows fun s => GearRequested s ∧ ThrustSound s := by
  refine ⟨fun _ h => h, fun _ _ h => h, fun _ _ _ h => h, fun s _ h => ⟨fun _ => ?_, duplicateSeen_thrustSound h.2⟩⟩
  have hreq : (duplicateSeen s).dch.gearReq = .neutral := rfl
  unfold gearInStep
  rw [hreq]
  by_cases hfit : s.sc.fitted.engine = true
  · have htsu : (duplicateSeen s).tsu = tsuSafe s.tsu := if_pos hfit
    rw [htsu]
    rfl
  · have htsu : (duplicateSeen s).tsu = s.tsu := if_neg hfit
    rw [htsu, (h.2.unfitted (by simpa using hfit)).2]
    rfl

theorem exec_gearRequested {c : Instr} {s t : State} (hdue : deliveriesFitted s) (h : exec c s = .next t)
    (hs : GearRequested s ∧ ThrustSound s) : GearRequested t ∧ ThrustSound t := by
  have hreset {sc : Sc} {fau : Fau} {tau : Tau} {ssq : Ssq} {now : Nat} {u : State} :
      gearInStep (resetUnits sc fau tau ssq now u) := rfl
  refine ⟨?_, exec_thrustSound hdue h hs.2⟩
  by_cases hrow : c ∈ frameRows
  · refine (gearRequested_keptByRows.exec hrow (fun f ha hfits hu => ⟨?_, ownerOf_thrustSound ha.2.2 hfits hu.2⟩) h hs).1
    exact fun _ => (ownerOf_works c f _).gear (hu.1 ha.1)
  by_cases hline : lineStateRows c
  · obtain ⟨n, f, rfl⟩ | ⟨n, f, rfl⟩ | ⟨u, v, rfl⟩ | rfl | rfl := hline
    · cases h
      exact fun _ => hreset
    · obtain rfl | rfl | ⟨-, rfl⟩ := lineReset_cases h
      · exact hs.1
      · exact fun _ => hreset
      · exact fun _ => (enterJoining_works _).gear hreset
    · rw [exec_supplyFailure] at h
      cases h
      exact nofun
    · rw [live_next h]
      repeat' split
      all_goals exact hs.1
    · obtain rfl | ⟨n, -, -, rfl⟩ := expiry_cases (live_next h)
      · exact hs.1
      · exact hs.1
  · have hpow : t.powered = s.powered :=
      exec_onlyChanges h .powered fun hp => by
        cases c with
        | powerOnReset n f => exact hline (.inl ⟨n, f, rfl⟩)
        | supplyFailure u v => exact hline (.inr (.inr (.inl ⟨u, v, rfl⟩)))
        | _ => simp [changedBy] at hp
    exact fun hp => (exec_works hrow hline h).gear (hs.1 (hpow ▸ hp))

/-- What O56 keeps, as one condition. -/
def ThrustAndRudder (s : State) : Prop :=
  deliveriesFitted s ∧ (GearRequested s ∧ ThrustSound s) ∧ rudderConsistent s

theorem thrustAndRudder_iff (s : State) :
    ThrustAndRudder s ↔ deliveriesFitted s ∧ setPointBounded s ∧ gearConsistent s ∧ rudderConsistent s := by
  have hiff := thrustSound_iff s
  unfold ThrustAndRudder GearRequested
  tauto

/-- Settles O56: deliveries, TSU's record with the gear request, and STU's record each by what the commands keep. -/
theorem stepKeepsThrustAndRudder : Obligations.StepKeepsThrustAndRudder := by
  intro s t hs hstep
  rw [← thrustAndRudder_iff] at hs ⊢
  refine step_keeps (P := ThrustAndRudder) (fun _ _ h => h) (fun _ h => h) (fun c u v h hu => ?_) hs hstep
  obtain ⟨hdue, hthrust, hrudder⟩ := hu
  exact ⟨exec_deliveriesFitted h hdue, exec_gearRequested hdue h hthrust, exec_rudderConsistent hdue h hrudder⟩

end Sys2Proof.Machine
end

section
/-! PROOFS. What every step keeps of the helm (R21, R28, R35, R37, R39). -/

namespace Sys2Proof.Machine

open Sys2Proof

/-! ### The helm -/

/-- HCU's record as O57 has it, for SC's record: in command it is the recorded holder with its DEMAND timer running (R21,
R35), a valid record has a holder and a running timer (R37, R39), and HELM_LOST goes with an invalid one (R39). -/
structure HelmSound (c : Sc) (h : Hcu) : Prop where
  command : h.helm = .inCommand → c.fitted.helm = true ∧ h.holder = some c.number ∧ h.demandTimer.isSome = true
  valid : h.demand.valid = true → h.holder.isSome = true ∧ h.helmLossTimer.isSome = true
  lost : h.helmLost = true → h.demand.valid = false

/-- The conditions of O57 on HCU's record are these, with the delivery at a fitted unit. -/
theorem helmConsistent_iff (s : State) :
    helmConsistent s ↔ HelmSound s.sc s.hcu ∧ (s.due.hcu = true → s.sc.fitted.helm = true) :=
  ⟨fun ⟨h1, h2, h3, h4⟩ => ⟨⟨h1, h2, h3⟩, h4⟩, fun ⟨⟨h1, h2, h3⟩, h4⟩ => ⟨h1, h2, h3, h4⟩⟩

section
variable {c : Sc} {h : Hcu}

theorem HelmSound.straps {d : Sc} (hno : d.number = c.number) (hfit : d.fitted = c.fitted) (hs : HelmSound c h) :
    HelmSound d h := ⟨by rw [hno, hfit]; exact hs.command, hs.valid, hs.lost⟩

/-- A record out of command is sound by its demand record alone. -/
theorem HelmSound.outOfCommand {h' : Hcu} (hhelm : h'.helm ≠ .inCommand)
    (hvalid : h'.demand.valid = true → h'.holder.isSome = true ∧ h'.helmLossTimer.isSome = true)
    (hlost : h'.helmLost = true → h'.demand.valid = false) : HelmSound c h' :=
  ⟨fun hc => absurd hc hhelm, hvalid, hlost⟩

/-- Values taken into the demand record of a station with a holder (R35, R38, R39). -/
theorem HelmSound.takeDemand {now : Nat} {d r : Int} {m : Mode} (hholder : h.holder.isSome = true)
    (hs : HelmSound c h) : HelmSound c (takeDemand now d r m h) :=
  ⟨hs.command, fun _ => ⟨hholder, rfl⟩, nofun⟩

/-- Leaving command restarts the helm-loss timer (R33, R39). -/
theorem leaveCommand_helmSound {s : State}
    (hvalid : s.hcu.demand.valid = true → s.hcu.holder.isSome = true) : HelmSound c (leaveCommand s).hcu :=
  .outOfCommand nofun (fun hv => ⟨hvalid hv, rfl⟩) nofun

/-- Command is entered by the recorded holder at a HELM-fitted station (R31, R35). -/
theorem enterCommand_helmSound {s : State} (hfit : c.fitted.helm = true) (hholder : s.hcu.holder = some c.number) :
    HelmSound c (enterCommand s).hcu :=
  ⟨fun _ => ⟨hfit, hholder, rfl⟩, fun _ => ⟨Option.isSome_of_mem hholder, rfl⟩, nofun⟩

/-- A claim that is not lower leaves its station as the recorded holder (R23). -/
theorem applyClaim_holder {k : ClaimKind} {e : Seq16} {x : Station} {s : State}
    (hj : judgeClaim s.hcu e x ≠ .lower) : (applyClaim k e x s).hcu.holder = some x := by
  unfold applyClaim
  split
  · rfl
  next hconf =>
    unfold judgeClaim at hconf
    split at hconf
    · cases hconf
    next y hy =>
      split at hconf
      next heq => rw [heq.2]; exact hy
      · split at hconf <;> cases hconf
  next hlow => exact absurd hlow hj

/-- What a claim leaves of the demand record: one that stays valid keeps its timer, and has a holder (R23, R39). -/
theorem applyClaim_valid {k : ClaimKind} {e : Seq16} {x : Station} {s : State} (hs : HelmSound s.sc s.hcu) :
    ((applyClaim k e x s).hcu.demand.valid = true →
        (applyClaim k e x s).hcu.holder.isSome = true ∧ (applyClaim k e x s).hcu.helmLossTimer.isSome = true)
      ∧ ((applyClaim k e x s).hcu.helmLost = true → (applyClaim k e x s).hcu.demand.valid = false) := by
  unfold applyClaim
  split
  · refine ⟨fun hv => ⟨rfl, (hs.valid ?_).2⟩, fun hl => ?_⟩
    · simp only [onHcu, Bool.and_eq_true] at hv
      exact hv.1
    · simp only [onHcu, hs.lost hl, Bool.false_and]
  · exact ⟨hs.valid, hs.lost⟩
  · exact ⟨hs.valid, hs.lost⟩

theorem applyClaim_helm (k : ClaimKind) (e : Seq16) (x : Station) (s : State) :
    (applyClaim k e x s).hcu.helm = s.hcu.helm ∧ (applyClaim k e x s).hcu.demandTimer = s.hcu.demandTimer := by
  unfold applyClaim
  split <;> exact ⟨rfl, rfl⟩

/-- A claim keeps the station in command only while it is the claim's own station or the claim is not adopted. -/
theorem applyClaim_command {k : ClaimKind} {e : Seq16} {x : Station} {s : State} (hs : HelmSound s.sc s.hcu)
    (hown : judgeClaim s.hcu e x = .adopted → x = s.sc.number) : HelmSound s.sc (applyClaim k e x s).hcu := by
  obtain ⟨hvalid, hlost⟩ := applyClaim_valid (k := k) (e := e) (x := x) hs
  obtain ⟨hhelm, htimer⟩ := applyClaim_helm k e x s
  refine ⟨fun hc => ?_, hvalid, hlost⟩
  rw [hhelm] at hc
  obtain ⟨hfit, hholder, hdemand⟩ := hs.command hc
  refine ⟨hfit, ?_, htimer ▸ hdemand⟩
  unfold applyClaim
  split
  next hadopt => rw [← hown hadopt]; rfl
  · exact hholder
  · exact hholder

theorem claim_helmSound {k : ClaimKind} {e : Seq16} {x : Station} {s : State} (hs : HelmSound s.sc s.hcu) :
    HelmSound s.sc (claim k e x s).hcu := by
  obtain ⟨hvalid, hlost⟩ := applyClaim_valid (k := k) (e := e) (x := x) hs
  obtain ⟨hhelm, htimer⟩ := applyClaim_helm k e x s
  have hout (hne : s.hcu.helm ≠ .inCommand) : HelmSound s.sc (applyClaim k e x s).hcu :=
    .outOfCommand (by rw [hhelm]; exact hne) hvalid hlost
  unfold claim
  simp only
  split
  next hfit =>
    unfold helmAfterClaim
    simp only
    split
    next hst =>
      have hne : s.hcu.helm ≠ .inCommand := by rw [← hhelm, hst]; nofun
      repeat' split
      next hgrant =>
        simp only [Bool.and_eq_true, beq_iff_eq, bne_iff_ne, ne_eq] at hgrant
        have hown : x = s.sc.number := by simpa using hgrant.1.1
        exact enterCommand_helmSound hfit (by rw [← hown]; exact applyClaim_holder hgrant.2)
      · exact .outOfCommand nofun hvalid hlost
      · exact hout hne
    next hst =>
      split
      · exact leaveCommand_helmSound fun hv => (hvalid hv).1
      next hstay =>
        have hkeep : HelmSound s.sc (applyClaim k e x s).hcu := by
          refine applyClaim_command hs fun hadopt => ?_
          simpa [hadopt] using hstay
        split
        · exact hkeep
        · exact hkeep
    next hst =>
      have hne : s.hcu.helm ≠ .inCommand := by rw [← hhelm, hst]; nofun
      split
      · exact .outOfCommand (by simp [onHcu, hst]) hvalid hlost
      · exact hout hne
  next hfit =>
    exact hout fun hc => hfit (hs.command hc).1

/-- The state's HCU record is sound. -/
def HelmInOrder (s : State) : Prop := HelmSound s.sc s.hcu

theorem helmInOrder_of_sc {s : State} {c : Sc} (hsc : s.sc = c) (h : HelmSound c s.hcu) : HelmInOrder s := by
  subst hsc
  exact h

theorem seizeEdge_helmInOrder {s : State} (hfit : s.sc.fitted.helm = true) (hs : HelmInOrder s) :
    HelmInOrder (seizeEdge s) := by
  refine helmInOrder_of_sc (c := s.sc) (by simp) ?_
  unfold seizeEdge
  split
  · exact hs
  · exact enterCommand_helmSound hfit rfl

theorem takeEdge_helmInOrder {s : State} (hfit : s.sc.fitted.helm = true) (hs : HelmInOrder s) :
    HelmInOrder (takeEdge s) := by
  unfold takeEdge
  repeat' split
  · exact hs
  · exact seizeEdge_helmInOrder hfit hs
  · exact .outOfCommand nofun hs.valid hs.lost

theorem helmEdges_helmInOrder {a b : Bool} {s : State} (hfit : s.sc.fitted.helm = true) (hs : HelmInOrder s) :
    HelmInOrder (helmEdges a b s) := by
  have hfree : HelmInOrder { s with freeSeq := s.freeSeq + 1 } := hs
  unfold helmEdges
  split
  · exact hs
  · exact takeEdge_helmInOrder hfit hs
  · exact seizeEdge_helmInOrder hfit hs
  · simp only
    split
    · exact seizeEdge_helmInOrder (by simpa using hfit) (takeEdge_helmInOrder hfit hfree)
    · exact takeEdge_helmInOrder (by simpa using hfit) (seizeEdge_helmInOrder hfit hfree)

theorem commandScan_helmInOrder {s : State} (hs : HelmInOrder s) : HelmInOrder (commandScan s) := by
  refine helmInOrder_of_sc (c := s.sc) (by simp) ?_
  unfold commandScan
  split
  next hc =>
    have hfeed : HelmSound s.sc (feedOwn s.now s.hcu) := hs.takeDemand (Option.isSome_of_mem (hs.command hc).2.1)
    simp only
    split
    · exact ⟨hfeed.command, hfeed.valid, hfeed.lost⟩
    · exact hfeed
  · exact hs

theorem hcuScan_helmInOrder {m : SampleSet} {s : State} (hfit : s.sc.fitted.helm = true) (hs : HelmInOrder s) :
    HelmInOrder (hcuScan m s) := by
  have hin : HelmInOrder { s with hcu := helmInputs (cfg5 s) m s.hcu } := ⟨hs.command, hs.valid, hs.lost⟩
  exact commandScan_helmInOrder (helmEdges_helmInOrder hfit hin)

theorem ownRequest_helmSound {f : Frame} {s : State} (hs : HelmSound s.sc s.hcu) :
    HelmSound s.sc (ownRequest f s).hcu := by
  unfold ownRequest
  repeat' split
  · exact hs
  · exact leaveCommand_helmSound nofun
  · exact hs
  · exact hs

theorem ownDemand_helmSound {f : Frame} {s : State} (hs : HelmSound s.sc s.hcu) :
    HelmSound s.sc (ownDemand f s).hcu := by
  have hclaim := claim_helmSound (k := .demand) (e := getEpoch 0 f.payload) (x := f.sender) hs
  unfold ownDemand
  simp only
  split
  next hpair => exact hclaim.takeDemand (Option.isSome_of_mem hpair.1)
  next => exact hclaim

theorem vacateIf_helmSound {n : Station} {s : State} {d : Sc} (hs : HelmSound d s.hcu) : HelmSound d (vacateIf n s).hcu := by
  unfold vacateIf
  split
  · exact ⟨hs.command, hs.valid, hs.lost⟩
  · exact hs

theorem ownStatus_helmSound {f : Frame} {s : State} (hs : HelmSound s.sc s.hcu) :
    HelmSound s.sc (ownStatus f s).hcu := by
  have hput (r : PeerRecord) : HelmSound s.sc (putPeer f.sender r s).hcu := by simpa using hs
  simp only [ownStatus, helmSeen]
  repeat' split
  · exact vacateIf_helmSound (hput _)
  · exact hput _
  · exact hput _

end

theorem HelmInOrder.of_same {s t : State} (hno : t.sc.number = s.sc.number) (hfit : t.sc.fitted = s.sc.fitted)
    (hhcu : t.hcu = s.hcu) (h : HelmInOrder s) : HelmInOrder t := by
  unfold HelmInOrder
  rw [hhcu]
  exact h.straps hno hfit

theorem helmInOrder_reset {s : State} (h : s.hcu = hcuReset) : HelmInOrder s := by
  unfold HelmInOrder
  rw [h]
  exact .outOfCommand nofun nofun nofun

/-- The entry to JOINING starts the helm-loss timer and ends HELM_LOST (R39). -/
theorem enterJoining_helmInOrder {s : State} (h : HelmInOrder s) : HelmInOrder (enterJoining s) := by
  have hhcu : (enterJoining s).hcu = (startJoining s).hcu := by simp [enterJoining]
  unfold HelmInOrder
  rw [hhcu, enterJoining_sc]
  exact ⟨h.command, fun hv => ⟨(h.valid hv).1, rfl⟩, nofun⟩

theorem duplicateSeen_helmInOrder {s : State} (h : HelmInOrder s) : HelmInOrder (duplicateSeen s) :=
  .outOfCommand nofun h.valid h.lost

theorem helmInOrder_keptByRows : KeptByRows HelmInOrder :=
  ⟨fun _ h => h, fun _ _ h => h, fun _ _ _ h => h, fun _ _ => duplicateSeen_helmInOrder⟩

theorem ownerOf_helmInOrder {c : Instr} {f : Frame} {s : State} (h : HelmInOrder s) : HelmInOrder (ownerOf c f s) := by
  by_cases hc : c ∈ [Instr.holdStation, .releaseStation, .commission]
  · simp only [List.mem_cons, List.not_mem_nil, or_false] at hc
    obtain rfl | rfl | rfl := hc
    · simp only [ownerOf, ownHold]
      repeat' split
      · exact h
      · exact h
      · exact h.of_same (by rw [enterHold_sc]) (by rw [enterHold_sc]) (by simp [enterHold, setStation])
    · simp only [ownerOf, ownRelease]
      repeat' split
      · exact h
      · exact h.of_same (by rw [leaveHold_sc]) (by rw [leaveHold_sc]) (by simp [leaveHold, setStation])
      · exact h
    · obtain ⟨c, x, hc, ht⟩ | ⟨c, hc, ht⟩ := ownCommission_commissioned f s
      · rw [ownerOf, ht]
        exact HelmInOrder.of_same (s := s) hc.number hc.fitted rfl h
      · rw [ownerOf, ht]
        exact enterJoining_helmInOrder (HelmInOrder.of_same (s := s) hc.number hc.fitted rfl h)
  · have hsc : (ownerOf c f s).sc = s.sc := ownerOf_sc hc f s
    unfold HelmInOrder
    rw [hsc]
    cases c with
    | commandRequest => exact ownRequest_helmSound h
    | commandGrant =>
      simp only [ownerOf, ownGrant]
      split
      · exact claim_helmSound h
      · exact h
    | commandDecline =>
      simp only [ownerOf, ownDecline]
      split
      · exact .outOfCommand nofun h.valid h.lost
      · exact h
    | commandSeize => exact claim_helmSound h
    | demand => exact ownDemand_helmSound h
    | status => exact ownStatus_helmSound h
    | coupleMakeFast | coupleRelease =>
      simp only [ownerOf, ownCouple]
      repeat' split
      all_goals simpa using (show HelmSound s.sc s.hcu from h)
    | holdStation | releaseStation | commission => exact absurd (by decide) hc
    | _ => simpa [ownerOf] using (show HelmSound s.sc s.hcu from h)

theorem exec_helmInOrder {c : Instr} {s t : State} (hdue : s.due.hcu = true → s.sc.fitted.helm = true)
    (h : exec c s = .next t) (hs : HelmInOrder s) : HelmInOrder t := by
  by_cases hrow : c ∈ frameRows
  · exact helmInOrder_keptByRows.exec hrow (fun f _ _ => ownerOf_helmInOrder) h hs
  by_cases hhcu : StatePart.hcu ∈ changedBy c
  · cases c with
    | powerOnReset n f =>
      cases h
      exact helmInOrder_reset rfl
    | lineReset n f =>
      have hreset : HelmInOrder (lineResetUnits n f s) := helmInOrder_reset rfl
      obtain rfl | rfl | ⟨-, rfl⟩ := lineReset_cases h
      · exact hs
      · exact hreset
      · exact enterJoining_helmInOrder hreset
    | hcuScanCompletion =>
      change execHcuScanCompletion s = .next t at h
      rw [live_next h]
      repeat' split
      next hd => exact hcuScan_helmInOrder (hdue hd) hs
      all_goals exact hs
    | requestTimerExpiry =>
      obtain rfl | ⟨n, -, -, rfl⟩ := expiry_cases (live_next h)
      · exact hs
      · refine ⟨fun hc => hs.command ?_, hs.valid, hs.lost⟩
        by_cases hreq : s.hcu.helm = .requesting
        · simp [onHcu, reach, hreq] at hc
        · simpa [onHcu, reach, hreq] using hc
    | demandTimerExpiry =>
      obtain rfl | ⟨n, -, -, rfl⟩ := expiry_cases (live_next h)
      · exact hs
      · exact ⟨fun hc => ⟨(hs.command hc).1, (hs.command hc).2.1, rfl⟩, hs.valid, hs.lost⟩
    | helmLossTimerExpiry =>
      obtain rfl | ⟨n, -, -, rfl⟩ := expiry_cases (live_next h)
      · exact hs
      · exact ⟨hs.command, nofun, fun _ => rfl⟩
    | lossDeadline n =>
      rw [live_next h]
      unfold atExpiry
      repeat' split
      · exact hs
      · exact helmInOrder_of_sc (c := s.sc) (by simp) (vacateIf_helmSound (by simpa using (show HelmSound s.sc s.hcu from hs)))
      all_goals exact hs
    | _ => first | exact absurd (by decide) hrow | simp [changedBy] at hhcu
  · have hno := exec_straps (fun n f hc => hhcu (by simp [hc, changedBy])) (fun n f hc => hhcu (by simp [hc, changedBy])) h
    exact hs.of_same hno.1 hno.2 (exec_onlyChanges h .hcu hhcu)

theorem exec_helmConsistent {c : Instr} {s t : State} (h : exec c s = .next t) (hs : helmConsistent s) :
    helmConsistent t := by
  rw [helmConsistent_iff] at hs ⊢
  refine ⟨exec_helmInOrder hs.2 h hs.1, ?_⟩
  obtain ⟨hfit, hhcu, -⟩ | hnone | hnew := exec_due h
  · exact fun hd => by rw [hfit]; exact hs.2 (hhcu hd)
  · simp [hnone, dueNone]
  · simp [hnew, deliveries]

end Sys2Proof.Machine
end

section
/-! PROOFS. The winches, the trip latch and the own causes, each shared operation by its table; TRIP, the own causes, CU's scan
completion and its timers (R87 to R107, R136 to R140). -/

namespace Sys2Proof.Machine

open Sys2Proof

/-! ### Parts that stay -/

theorem onlyChanges.trans {ps : List StatePart} {s t u : State} (h : onlyChanges ps s t) (h' : onlyChanges ps t u) :
    onlyChanges ps s u := by
  intro p hp
  have h1 := h p hp
  have h2 := h' p hp
  cases p <;> exact h2.trans h1

theorem onlyChanges.mono {ps qs : List StatePart} {s t : State} (hsub : ∀ p ∈ ps, p ∈ qs) (h : onlyChanges ps s t) :
    onlyChanges qs s t := fun p hp => h p (hp ∘ hsub p)

theorem onlyChanges.refl (ps : List StatePart) (s : State) : onlyChanges ps s s := fun p _ => by cases p <;> rfl

/-! ### A winch's record under the shared operations of CU -/

section
variable {s u : State} {w : WinchId} {x : Winch}

theorem winchKeeps_refl (s : State) (w : WinchId) : winchKeeps s s w (winchRec s w) := ⟨rfl, rfl, .refl _ s⟩

/-- A change of the winch's record alone. -/
theorem winchKeeps.onWinch (f : Winch → Winch) (h : winchKeeps s u w x) : winchKeeps s (onWinch w f u) w (f x) := by
  obtain ⟨hrec, hother, honly⟩ := h
  refine ⟨by rw [winchRec_onWinch_same, hrec], by rw [winchRec_onWinch_other, hother], honly.trans fun p hp => ?_⟩
  cases p <;> simp_all [StatePart.same]

/-- The winch's cap, computed where its record alone has changed (R101, R102). -/
theorem winchKeeps.recap (h : winchKeeps s u w x) :
    winchBecomes s (recap w u) w x ∧ onlyChanges [.tbi, .cu] s (recap w u) := by
  obtain ⟨hrec, hother, honly⟩ := h
  refine ⟨winchBecomes_recap (honly .now (by decide)) (honly .sc (by decide)) (honly .tbi (by decide)) hother hrec, ?_⟩
  refine (honly.mono (by simp)).trans fun p hp => ?_
  cases p <;> simp_all [StatePart.same]

/-- A winch enters a state from a record `x` (R87, R101). -/
theorem winchEnters_enterWinch (st : WinchState) (h : winchKeeps s u w x) :
    winchEnters s (enterWinch w st false u) w x st := (h.onWinch _).recap

/-- The end of an operation, from a record `x` (R99). -/
theorem winchEnds_finishOp (st : WinchState) (b : Bool) (h : winchKeeps s u w x) :
    winchEnds s (finishOp w st b u) w x st b := by
  obtain ⟨hrec, hother, honly⟩ := h
  have hnow : u.now = s.now := honly .now (by decide)
  have hsc : u.sc = s.sc := honly .sc (by decide)
  have htbi : u.tbi = s.tbi := honly .tbi (by decide)
  have hdch : u.dch = s.dch := honly .dch (by decide)
  refine ⟨?becomes, ?requests, ?frame⟩
  case becomes =>
    refine winchBecomes_recap ?_ ?_ ?_ ?_ ?_
    · simpa using hnow
    · simpa using hsc
    · simpa [endOp] using htbi
    · rw [winchRec_onWinch_other, ← hother]
      cases w <;> rfl
    · rw [winchRec_onWinch_same, ← hrec]
      cases w <;> rfl
  case requests =>
    have hreq : (finishOp w st b u).dch = requestBrake w .engage (requestPair (winchPair w) 0 0 u.dch) := by
      simp [finishOp, enterWinch, endOp]
    rw [hreq, hdch]
    have hpair (p : Pair) : activeSide { p with req1 := clampDuty 0, req2 := clampDuty 0 } = activeSide p := rfl
    cases w <;>
      simp only [requestBrake, requestPair, winchPair, pairOf, putPair, putBrake, brakeOf, brakeStep, endedDch, hpair,
        activeSide_eq_none] <;> rfl
  case frame =>
    intro p hp
    have := honly p
    cases p <;> simp_all [StatePart.same]

/-- The start of an operation, from a record `x` (R98). -/
theorem winchKeeps.beginOp (st : WinchState) (limit : Nat) (h : winchKeeps s u w x) :
    winchStarts s (beginOp w st limit u) w x st limit := by
  obtain ⟨hrec, hother, honly⟩ := h
  have hnow : u.now = s.now := honly .now (by decide)
  have hsc : u.sc = s.sc := honly .sc (by decide)
  have htbi : u.tbi = s.tbi := honly .tbi (by decide)
  have hdch : u.dch = s.dch := honly .dch (by decide)
  obtain ⟨-, hreq, hframe⟩ := winchStarts_beginOp w st limit u
  refine ⟨?becomes, by rw [hreq, hdch], ?frame⟩
  case becomes =>
    rw [startedWinch, ← ms_thousand_mul, ← hnow]
    refine winchBecomes_recap ?_ ?_ ?_ ?_ ?_
    · simpa using hnow
    · simpa using hsc
    · simpa using htbi
    · rw [winchRec_onWinch_other, ← hother]
      cases w <;> rfl
    · rw [winchRec_onWinch_same, ← hrec]
      cases w <;> rfl
  case frame => exact (honly.mono (by simp)).trans hframe

end

/-! ### The setting of the trip latch (R63, R107, R138) -/

theorem winchTrips_tripWinch (w : WinchId) (s : State) : winchTrips s (tripWinch w s) w := by
  refine ⟨fun h => ?_, fun h => ?_, fun htake hrel => ?_⟩
  · simp only [tripWinch, h]
    exact winchEnds_finishOp _ _ (winchKeeps_refl s w)
  · simp only [tripWinch, h]
    exact winchEnds_finishOp _ _ (winchKeeps_refl s w)
  · unfold tripWinch
    split
    next h => exact absurd h htake
    next h => exact absurd h hrel
    all_goals rfl

theorem tripGear_eq_tripped (x : Tsu) : tripGear x = tripped x := by
  unfold tripGear tripped
  split <;> simp [*]

theorem gearOutput_eq_outputOf (g : GearState) : gearOutput g = outputOf g := by
  unfold gearOutput outputOf
  split <;> rfl

theorem commitTsu_thrustRequests (x : Tsu) (s : State) : thrustRequests s (commitTsu x s) := by
  simp only [thrustRequests, commitTsu, clampDuty, gearOutput_eq_outputOf]

/-- The governor duty at set-point 0 (R53, R63). -/
theorem govDuty_at_zero (c : P1) (st : StationState) :
    govDuty c st 0 = if st = .listen ∨ st = .safe then 0 else c.idleDuty := by
  cases st with
  | listen | safe | joining => rfl
  | run | hold => exact govDuty_zero c rfl

theorem tripped_sp (x : Tsu) : (tripped x).sp = 0 := by rw [← tripGear_eq_tripped, tripGear_sp]

/-- The latch set with a record, before TSU and CU are told. -/
def latchOn (r : TripRecord) (s : State) : State := { s with tau := { s.tau with latch := true, record := some r } }

theorem setLatch_of_clear (r : TripRecord) {s : State} (hclear : s.tau.latch = false) :
    setLatch r s = cuTrip (tsuTrip (latchOn r s)) := if_neg (by simp [hclear])

/-- A setting reaches TSU, then winch A, then winch B. -/
theorem latchSets_setLatch (r : TripRecord) {s : State} (hclear : s.tau.latch = false) :
    latchSets s (setLatch r s) r := by
  rw [setLatch_of_clear r hclear]
  refine ⟨tsuTrip (latchOn r s), _, by simp [latchOn], fun hfit => ?_, fun hfit => ?_, fun p hp => ?_,
    winchTrips_tripWinch .a _, winchTrips_tripWinch .b _⟩
  · have htrip : tsuTrip (latchOn r s) = commitTsu (dutyStep (cfg1 s) s.sc.station (tripGear s.tsu)) (latchOn r s) :=
      if_pos hfit
    rw [htrip]
    refine ⟨?_, commitTsu_thrustRequests _ (latchOn r s)⟩
    simp only [commitTsu, dutyStep, tripGear_eq_tripped, tripped_sp, govDuty_at_zero]
  · have htrip : tsuTrip (latchOn r s) = latchOn r s := if_neg (by simp [latchOn, hfit])
    rw [htrip]
    exact ⟨rfl, rfl⟩
  · cases p <;> simp_all [StatePart.same, latchOn]

/-- Under a set latch a new record is all that changes. -/
theorem setLatch_of_set (r : TripRecord) {s : State} (hset : s.tau.latch = true) :
    setLatch r s = { s with tau := { s.tau with record := some r } } := by
  simp [setLatch, hset]

theorem causeBegins_beginCause (c : OwnCause) (s : State) : causeBegins s (beginCause c s) c := by
  have hrecord : (⟨ownTripCause c, s.sc.number, ownTripWinch c⟩ : TripRecord) = ownRecord s.sc.number c := by
    cases c <;> rfl
  have hbytes : putU 1 (causeCode (ownTripCause c)) ++ putU 1 (optWinchCode (ownTripWinch c)) = tripBytes c := by
    cases c with
    | tripIn => rfl
    | parted w => cases w <;> rfl
  refine ⟨fun hin => if_pos hin, fun hout => ⟨setLatch (ownRecord s.sc.number c) s, ?_, ?_, ?_⟩⟩
  · exact latchSets_setLatch _
  · exact setLatch_of_set _
  · have hbegin : beginCause c s = queueTrip c
        { setLatch (ownRecord s.sc.number c) s with
          tau :=
            { (setLatch (ownRecord s.sc.number c) s).tau with
              causes := (setLatch (ownRecord s.sc.number c) s).tau.causes ++ [c]
              repeatTimer := some ((setLatch (ownRecord s.sc.number c) s).now + ms 1000) } } := by
      rw [← hrecord]
      exact if_neg hout
    have hcauses : (setLatch (ownRecord s.sc.number c) s).tau.causes = s.tau.causes := by
      unfold setLatch
      simp only
      split
      · rfl
      · simp
    rw [hbegin, queueTrip, hbytes, hcauses]
    simp [queueFrame, queuedTbi, ms]

/-- A winch parts, from a record `x` (R96). -/
theorem winchParts_partWinch {s u : State} {w : WinchId} {x : Winch} (h : winchKeeps s u w x) :
    winchParts s (partWinch w u) w x := by
  refine ⟨finishOp w .parted false u, winchEnds_finishOp _ _ h, ?_⟩
  cases w <;> exact causeBegins_beginCause _ _

/-! ### The frames and timers of the trip state (R137 to R140) -/

theorem causeOf_eq (n : Nat) : causeOf n = if n = 1 then .parted else if n = 2 then .tripIn else .unspecified := by
  unfold causeOf
  split <;> simp_all

theorem winchOf_eq (n : Nat) : winchOf n = if n = 1 then some .a else if n = 2 then some .b else none := by
  unfold winchOf
  split <;> simp_all

/-- Settles O39: an admitted TRIP goes to TAU, where a clear latch is set. -/
theorem tripFrame : Obligations.TripFrame := by
  intro s f ha hcls cause winch
  have hexec : exec .trip s = .next (ownTrip f (taken s)) := exec_admitted ha (by simp [frameFor, ofClass, hcls])
  have hcause : causeOf (getU 1 0 f.payload) = cause := causeOf_eq _
  have hwinch : winchOf (getU 1 1 f.payload) = winch := winchOf_eq _
  have hown : ownTrip f (taken s) = if s.tau.latch then taken s else setLatch ⟨cause, f.sender, winch⟩ (taken s) := by
    rw [← hcause, ← hwinch]
    rfl
  rw [hexec, hown]
  refine ⟨fun hset => by rw [if_pos hset], fun hclear => ⟨_, rfl, ?_⟩⟩
  rw [if_neg (by simp [hclear])]
  have htau : (setLatch ⟨cause, f.sender, winch⟩ (taken s)).tau =
      { s.tau with latch := true, record := some ⟨cause, f.sender, winch⟩ } := by
    rw [setLatch_of_clear (s := taken s) _ hclear]
    simp [latchOn, taken]
  refine ⟨latchSets_setLatch _ hclear, htau, ?_, fun p hp => ?_⟩
  · simp [alarmPresent, htau]
  · cases p <;> simp_all [StatePart.same, taken]

theorem mem_causes_beginCause (c : OwnCause) (s : State) : c ∈ (beginCause c s).tau.causes := by
  unfold beginCause
  split
  next hin => exact hin
  · simp [queueTrip]

/-- TAU takes a delivered sample set (R137). -/
theorem exec_tauScan {s : State} {m : SampleSet} (hp : s.powered = true) (hm : s.ssq.sample = some m)
    (hd : s.due.tau = true) :
    exec .tauScanCompletion s = .next (tauScan m { s with due := { s.due with tau := false } }) := by
  change execTauScanCompletion s = _
  simp [execTauScanCompletion, live, hp, hm, hd]

/-- Settles O41: TRIP_IN's cause begins or ends with its input, and the newest cause is repeated. -/
theorem ownCauses : Obligations.OwnCauses := by
  intro s hp
  refine ⟨fun m hm hd => ?_, fun causes c d hc ht => ?_⟩
  · rw [exec_tauScan hp hm hd]
    refine ⟨fun hj => ?_, fun hj hin => ?_, fun hj hin => ⟨_, rfl, ?_⟩⟩
    · simp [tauScan, hj]
    · simp [tauScan, hj, hin, endCause_eq]
    · have hscan : tauScan m { s with due := { s.due with tau := false } } =
          beginCause .tripIn { s with due := { s.due with tau := false } } := by simp [tauScan, hj, hin]
      rw [hscan]
      refine ⟨causeBegins_beginCause _ _, mem_causes_beginCause _ _, fun p hp => ?_⟩
      cases p <;> simp_all [StatePart.same]
  · change execTripRepeatExpiry s = _
    have hbytes : putU 1 (causeCode (ownTripCause c)) ++ putU 1 (optWinchCode (ownTripWinch c)) = tripBytes c := by
      cases c with
      | tripIn => rfl
      | parted w => cases w <;> rfl
    simp [execTripRepeatExpiry, live, hp, hc, ht, atExpiry, queueTrip, hbytes, queueFrame, reach, ms]

/-! ### A winch at a scan completion (R89 to R97) -/

theorem readingValue_eq_givenBy (r : Reading) : readingValue r = givenBy r := by
  unfold readingValue givenBy
  cases r.status <;> simp

/-- The reading stored: the record that the scan completion goes on with (R89). -/
theorem winchKeeps_storeTension (w : WinchId) (r : Reading) (s : State) :
    winchKeeps s (storeTension w r s) w
      { winchRec s w with
        latest := some r
        lastTension := match givenBy r with | some v => v.toNat | none => (winchRec s w).lastTension } := by
  rw [← readingValue_eq_givenBy]
  exact (winchKeeps_refl s w).onWinch _

section
variable {s u : State} {w : WinchId} {x : Winch} {m : SampleSet}

/-- The commissioned values that a winch's rules read are SC's, which the stored reading leaves. -/
theorem winchKeeps.cfg3 (h : winchKeeps s u w x) : cfg3 u = cfg3 s := by
  have hsc : u.sc = s.sc := h.2.2 .sc (by decide)
  simp only [Machine.cfg3, hsc]

theorem holdingScan_table {v : Int} (h : winchKeeps s u w x) :
    if v < (cfg3 s).tParted then winchParts s (holdingScan w v u) w x
    else if (cfg3 s).tHigh ≤ v then winchEnters s (holdingScan w v u) w x .overload
    else if v < (cfg3 s).tLow then
      if 4 ≤ x.runCount then winchStarts s (holdingScan w v u) w x .takingUp (cfg3 s).takeupLimit
      else winchKeeps s (holdingScan w v u) w { x with runCount := x.runCount + 1 }
    else winchKeeps s (holdingScan w v u) w { x with runCount := 0 } := by
  have hcount : 5 ≤ (winchRec u w).runCount + 1 ↔ 4 ≤ x.runCount := by rw [h.1]; omega
  simp only [holdingScan, h.cfg3, hcount]
  split_ifs
  · exact winchParts_partWinch h
  · exact winchEnters_enterWinch _ h
  · rw [beginTakeup, h.cfg3]
    exact h.beginOp _ _
  · rw [h.1]
    exact h.onWinch _
  · exact h.onWinch _

theorem overloadScan_table {v : Int} (h : winchKeeps s u w x) :
    let inhibit := x.renderInhibit && decide (((cfg3 s).tTrip : Int) ≤ v)
    if v < (cfg3 s).tParted then winchParts s (overloadScan w v u) w x
    else if (cfg3 s).tTrip ≤ v ∧ x.renderInhibit = false then
      winchStarts s (overloadScan w v u) w x .rendering (cfg3 s).renderLimit
    else if v < ((cfg3 s).tHigh : Int) - (cfg3 s).hysteresis then
      if 9 ≤ x.runCount then winchEnters s (overloadScan w v u) w x .holding
      else
        winchBecomes s (overloadScan w v u) w { x with runCount := x.runCount + 1, renderInhibit := inhibit }
          ∧ onlyChanges [.tbi, .cu] s (overloadScan w v u)
    else
      winchBecomes s (overloadScan w v u) w { x with runCount := 0, renderInhibit := inhibit }
        ∧ onlyChanges [.tbi, .cu] s (overloadScan w v u) := by
  have hcount : 10 ≤ (winchRec u w).runCount + 1 ↔ 9 ≤ x.runCount := by rw [h.1]; omega
  have hinhibit : (winchRec u w).renderInhibit = x.renderInhibit := by rw [h.1]
  have hease (n : Nat) : winchKeeps s (easeInhibit w v (setRun w n u)) w
      { x with runCount := n, renderInhibit := x.renderInhibit && decide (((cfg3 s).tTrip : Int) ≤ v) } := by
    have hrun := h.onWinch fun y => { y with runCount := n }
    have hcfg : Machine.cfg3 (setRun w n u) = Machine.cfg3 s := hrun.cfg3
    rw [easeInhibit, hcfg]
    exact hrun.onWinch _
  simp only [overloadScan, h.cfg3, hcount, hinhibit]
  split_ifs
  · exact winchParts_partWinch h
  · rw [beginRender, h.cfg3]
    exact h.beginOp _ _
  · exact winchEnters_enterWinch _ h
  · rw [h.1]
    exact (hease _).recap
  · exact (hease _).recap

theorem renderingScan_table {v : Int} (h : winchKeeps s u w x) :
    if v < (cfg3 s).tParted then winchParts s (renderingScan w v u) w x
    else if v ≤ (cfg3 s).tSet then winchEnds s (renderingScan w v u) w x .holding false
    else winchKeeps s (renderingScan w v u) w x := by
  simp only [renderingScan, h.cfg3]
  split_ifs
  · exact winchParts_partWinch h
  · exact winchEnds_finishOp _ _ h
  · exact h

theorem blindScan_table {r : Reading} {v : Int} (h : winchKeeps s u w x) :
    if r.status ≠ .good then winchKeeps s (blindScan w r v u) w { x with runCount := 0 }
    else if 9 ≤ x.runCount then winchEnters s (blindScan w r v u) w x (if (cfg3 s).tLow ≤ v then .holding else .slack)
    else winchKeeps s (blindScan w r v u) w { x with runCount := x.runCount + 1 } := by
  have hcount : 10 ≤ (winchRec u w).runCount + 1 ↔ 9 ≤ x.runCount := by rw [h.1]; omega
  simp only [blindScan, settledWinch, h.cfg3, hcount]
  split_ifs
  · exact h.onWinch _
  all_goals first | exact winchEnters_enterWinch _ h | (rw [h.1]; exact h.onWinch _)

/-- One winch at a scan completion, by its state and its reading. -/
theorem winchScanned_winchScan (m : SampleSet) (s : State) (w : WinchId) : winchScanned m s (winchScan w m s) w := by
  have hstored := winchKeeps_storeTension w (tensionOf m w) s
  generalize hu : storeTension w (tensionOf m w) s = u at hstored
  have hstate : (winchRec u w).state = (winchRec s w).state := by rw [hstored.1]
  refine ⟨fun hfit => by simp [winchScan, hfit], fun hfit hnone => ?_, fun hfit v hsome => ?_⟩
  · have hscan : winchScan w m s = scanNoTension w u := by
      simp only [winchScan, hfit, if_true, readingValue_eq_givenBy, hnone, hu]
    rw [hscan]
    refine ⟨fun h => ?_, fun h => ?_, fun h => ?_⟩
    · have hend : scanNoTension w u = finishOp w .blind false u := by
        rcases h with h | h | h | h | h | h <;> simp only [scanNoTension, hstate, h]
      rw [hend]
      exact winchEnds_finishOp _ _ hstored
    · have hrun : scanNoTension w u = setRun w 0 u := by simp only [scanNoTension, hstate, h]
      rw [hrun]
      exact hstored.onWinch _
    · have hkeep : scanNoTension w u = u := by
        rcases h with h | h | h | h <;> simp only [scanNoTension, hstate, h]
      rw [hkeep]
      exact hstored
  · have hscan : winchScan w m s = scanTension w (tensionOf m w) v u := by
      simp only [winchScan, hfit, if_true, readingValue_eq_givenBy, hsome, hu]
    rw [hscan]
    refine ⟨fun h => ?_, fun h => ?_, fun h => ?_, fun h => ?_, fun h => ?_, fun h => ?_⟩
    · have hkeep : scanTension w (tensionOf m w) v u = u := by
        rcases h with h | h | h | h | h | h <;> simp only [scanTension, hstate, h]
      rw [hkeep]
      exact hstored
    · have htake : scanTension w (tensionOf m w) v u =
          if ((cfg3 s).tSet : Int) ≤ v then finishOp w .holding false u else u := by
        simp only [scanTension, hstate, h, hstored.cfg3]
      rw [htake]
      refine ⟨fun hge => ?_, fun hlt => ?_⟩
      · rw [if_pos hge]
        exact winchEnds_finishOp _ _ hstored
      · rw [if_neg (by omega)]
        exact hstored
    · have hto : scanTension w (tensionOf m w) v u = holdingScan w v u := by simp only [scanTension, hstate, h]
      rw [hto]
      exact holdingScan_table hstored
    · have hto : scanTension w (tensionOf m w) v u = overloadScan w v u := by simp only [scanTension, hstate, h]
      rw [hto]
      exact overloadScan_table hstored
    · have hto : scanTension w (tensionOf m w) v u = renderingScan w v u := by simp only [scanTension, hstate, h]
      rw [hto]
      exact renderingScan_table hstored
    · have hto : scanTension w (tensionOf m w) v u = blindScan w (tensionOf m w) v u := by simp only [scanTension, hstate, h]
      rw [hto]
      exact blindScan_table hstored

end

/-- Settles O43: winch A whole, then winch B, each by its table. -/
theorem winchScans : Obligations.WinchScan := by
  intro s m hp hm hd
  refine ⟨winchScan .a m { s with due := { s.due with cu := false } }, _, ?_, winchScanned_winchScan m _ .a,
    winchScanned_winchScan m _ .b, fun p hp => ?_⟩
  · change execCuScanCompletion s = _
    simp [execCuScanCompletion, live, hp, hm, hd]
  · cases p <;> simp_all [StatePart.same]

/-! ### The winch timers (R94, R95, R98, R100, R102) -/

/-- The duties of an operation (R98). -/
theorem opDuties_eq (s : State) (st : WinchState) :
    opDuties s st =
      (if st = .takingUp then (cfg3 s).takeupDuty else 0,
        if st = .rendering then (cfg3 s).renderDuty else if st = .releasing then (cfg3 s).releaseDuty else 0) := by
  cases st <;> rfl

theorem winchRec_startDrive (w : WinchId) (s : State) :
    winchRec (startDrive w s) w =
      { winchRec s w with
        phase := some .driving, dwellTimer := none, haul := (opDuties s (winchRec s w).state).1
        pay := (opDuties s (winchRec s w).state).2 } := by
  cases w <;> rfl

/-- Settles O44: each timer's command at its end, from CU's shared operations. -/
theorem winchTimers : Obligations.WinchTimers := by
  intro s w d hp x at' c
  have hat : reach d s = at' := rfl
  have hkeep : winchKeeps at' at' w x := by
    have hrec : winchRec at' w = x := winchRec_congr rfl w
    exact hrec ▸ winchKeeps_refl at' w
  refine ⟨fun ht => ⟨fun hst => ?_, fun hst => ?_, fun hst => ?_⟩, fun ht hst => ?_, fun cap hcap ht => ?_⟩
  · refine ⟨finishOp w .slack false at', winchEnds_finishOp _ _ hkeep, ?_⟩
    change execTakeupLimitExpiry w s = _
    have htau : (finishOp w .slack false at').tau = s.tau := by simp [at']
    simp only [execTakeupLimitExpiry, live, hp, if_true, atExpiry]
    rw [if_pos hst, ht]
    simp only [onLatched, hat, htau]
    cases w <;> rfl
  · refine ⟨finishOp w .overload true at', ?_, winchEnds_finishOp _ _ hkeep⟩
    change execRenderLimitExpiry w s = _
    simp only [execRenderLimitExpiry, live, hp, if_true, atExpiry]
    rw [if_pos hst, ht]
    rfl
  · refine ⟨finishOp w .released false at', ?_, winchEnds_finishOp _ _ hkeep⟩
    change execReleaseTimeExpiry w s = _
    simp only [execReleaseTimeExpiry, live, hp, if_true, atExpiry]
    rw [if_pos hst, ht]
    rfl
  · have hop : operating x = true := by
      rcases hst with h | h | h <;> simp [operating, h]
    refine ⟨startDrive w at', ?_, rfl, ?_, ?_, ?_, fun p hp => ?_⟩
    · change execBrakeDwellExpiry w s = _
      simp only [execBrakeDwellExpiry, live, hp, if_true, atExpiry]
      rw [if_pos hop, ht]
      rfl
    · rw [winchRec_startDrive, opDuties_eq, hkeep.1]
      rfl
    · cases w <;> rfl
    · have hdch : (startDrive w at').dch =
          requestPair (winchPair w) (opDuties at' (winchRec at' w).state).1 (opDuties at' (winchRec at' w).state).2
            s.dch := rfl
      rw [hdch, opDuties_eq, hkeep.1]
      rfl
    · cases p <;> simp_all [StatePart.same, at']
  · refine ⟨sendCap w (some cap) at', ?_, by simp [at'], ?_, ?_, ?_, fun p hp => ?_⟩
    · change execCapRepeatExpiry w s = _
      simp only [execCapRepeatExpiry, live, hp, if_true, atExpiry]
      rw [hcap, ht]
      rfl
    · rw [sendCap, winchRec_queueFrame, winchRec_onWinch_same, hkeep.1]
      simp [at', ms]
    · rw [sendCap, winchRec_queueFrame, winchRec_onWinch_other]
      rfl
    · rw [sendCap, queueFrame_tbi, hkeep.1]
      rfl
    · cases p <;> simp_all [StatePart.same, at']

end Sys2Proof.Machine
end

section
/-! PROOFS. What every step keeps of the winches and the own causes (R87, R90, R98, R101, R136 to R139). -/

namespace Sys2Proof.Machine

open Sys2Proof

/-! ### One winch record -/

/-- What an operation's fields are for a winch state (R98): a phase, a running limit and a released brake in an operation
only, a dwell timer in BRAKE_DWELL, duties in DRIVING only. -/
def OpFits (x : Winch) : Prop :=
  (x.phase.isSome = true ↔ operating x = true) ∧ (x.opTimer.isSome = true ↔ operating x = true)
    ∧ (x.dwellTimer.isSome = true ↔ x.phase = some .brakeDwell) ∧ (x.brakeReq = .release ↔ operating x = true)
    ∧ (x.phase ≠ some .driving → x.haul = 0 ∧ x.pay = 0)

theorem tableCap_isSome (s : State) (st : WinchState) (tension : Nat) :
    (tableCap s st tension).isSome = true ↔ capped st := by
  cases st <;> simp [tableCap, capped]

/-- An ended operation's record fits every state that is no operation. -/
theorem opFits_endedWinch (x : Winch) {st : WinchState} (b : Bool)
    (hst : st ≠ .takingUp ∧ st ≠ .rendering ∧ st ≠ .releasing) : OpFits (endedWinch x st b) := by
  simp [OpFits, endedWinch, operating, hst]

/-- A started operation's record fits its state. -/
theorem opFits_startedWinch (now : Nat) (x : Winch) {st : WinchState} (limit : Nat)
    (hst : st = .takingUp ∨ st = .rendering ∨ st = .releasing) : OpFits (startedWinch now x st limit) := by
  rcases hst with rfl | rfl | rfl <;> simp [OpFits, startedWinch, operating]

/-- Between two states without an operation the operation's fields stay as they are. -/
theorem OpFits.entered {x : Winch} {st : WinchState} {n : Nat} {b : Bool}
    (hold : x.state ≠ .takingUp ∧ x.state ≠ .rendering ∧ x.state ≠ .releasing)
    (hst : st ≠ .takingUp ∧ st ≠ .rendering ∧ st ≠ .releasing) (h : OpFits x) :
    OpFits { x with state := st, runCount := n, renderInhibit := b } := by
  have hop : operating { x with state := st, runCount := n, renderInhibit := b } = operating x := by
    rw [Bool.eq_iff_iff]
    simp [operating, hold, hst]
  unfold OpFits at *
  rwa [hop]

/-- A winch whose cap has just been computed is consistent if its operation's fields fit. -/
theorem winchBecomes.consistent {s t : State} {w : WinchId} {x : Winch} (h : winchBecomes s t w x) (hx : OpFits x) :
    winchConsistent (winchRec t w) := by
  rw [h.1]
  exact ⟨tableCap_isSome _ _ _, hx⟩

theorem winchBecomes.state {s t : State} {w : WinchId} {x : Winch} (h : winchBecomes s t w x) :
    (winchRec t w).state = x.state := by rw [h.1]

/-! ### Both winches, the station and the own causes -/

/-- A winch at rest, as both are outside RUN and HOLD (R90). -/
def atRestWinch (x : Winch) : Prop := x.state = .standby ∨ x.state = .unfitted

/-- TAU's own causes with a set of parted winches: no duplicates, the repeat timer running and the latch set while there is
one (R136 to R139, R141). -/
structure CausesMatch (t : Tau) (parted : WinchId → Prop) : Prop where
  nodup : t.causes.Nodup
  parted : ∀ w, OwnCause.parted w ∈ t.causes ↔ parted w
  repeats : t.repeatTimer.isSome = true ↔ t.causes ≠ []
  latched : t.causes ≠ [] → t.latch = true

/-- Winch records, rest and own causes, for a set of winches that TAU takes as parted. -/
structure MooredFor (parted : WinchId → Prop) (s : State) : Prop where
  winch : ∀ w, winchConsistent (winchRec s w)
  rest : working s.sc.station = false → ∀ w, atRestWinch (winchRec s w)
  causes : CausesMatch s.tau parted

/-- Whether a winch is in PARTED. -/
def isParted (s : State) (w : WinchId) : Prop := (winchRec s w).state = .parted

/-- The conditions of O57 on CU and TAU. -/
def Moored (s : State) : Prop := MooredFor (isParted s) s

theorem moored_iff (s : State) : Moored s ∧ joiningTimed s ↔ couplingConsistent s ∧ causesConsistent s := by
  constructor
  · rintro ⟨⟨hw, hrest, hn, hp, hr, hl⟩, hj⟩
    exact ⟨⟨hw .a, hw .b, hrest, hj⟩, hn, hp, hr, hl, hrest, hj⟩
  · rintro ⟨⟨ha, hb, -⟩, hn, hp, hr, hl, hrest, hj⟩
    refine ⟨⟨fun w => ?_, hrest, hn, hp, hr, hl⟩, hj⟩
    cases w
    exacts [ha, hb]

theorem eq_or_eq_otherWinch (w v : WinchId) : v = w ∨ v = otherWinch w := by
  cases w <;> cases v <;> simp [otherWinch]

section
variable {s t : State} {w : WinchId} {x : Winch} {P : WinchId → Prop}

theorem MooredFor.of_same (hst : working t.sc.station = false → working s.sc.station = false) (hcu : t.cu = s.cu)
    (hlatch : t.tau.latch = s.tau.latch) (hcauses : t.tau.causes = s.tau.causes)
    (hrepeat : t.tau.repeatTimer = s.tau.repeatTimer) (h : MooredFor P s) : MooredFor P t := by
  obtain ⟨hw, hrest, hn, hp, hr, hl⟩ := h
  refine ⟨fun w => ?_, fun hst' w => ?_, ?_, ?_, ?_, ?_⟩
  · rw [winchRec_congr hcu]; exact hw w
  · rw [winchRec_congr hcu]; exact hrest (hst hst') w
  · rwa [hcauses]
  · rwa [hcauses]
  · rwa [hcauses, hrepeat]
  · rwa [hcauses, hlatch]

/-- One winch changes, and with it no cause. -/
theorem MooredFor.change (hsc : t.sc = s.sc) (htau : t.tau = s.tau)
    (hother : winchRec t (otherWinch w) = winchRec s (otherWinch w)) (hcons : winchConsistent (winchRec t w))
    (hrest : working s.sc.station = false → atRestWinch (winchRec t w)) (h : MooredFor P s) : MooredFor P t := by
  refine ⟨fun v => ?_, fun hst v => ?_, by rw [htau]; exact h.causes⟩
  · obtain rfl | rfl := eq_or_eq_otherWinch w v
    · exact hcons
    · rw [hother]; exact h.winch _
  · rw [hsc] at hst
    obtain rfl | rfl := eq_or_eq_otherWinch w v
    · exact hrest hst
    · rw [hother]; exact h.rest hst _

/-- A winch in a state other than STANDBY and UNFITTED is one of a working station. -/
theorem MooredFor.working (h : MooredFor P s) (hw : ¬ atRestWinch (winchRec s w)) :
    Machine.working s.sc.station = true := by
  by_contra hst
  exact hw (h.rest (by simpa using hst) w)

theorem MooredFor.congr {Q : WinchId → Prop} (hPQ : ∀ w, P w ↔ Q w) (h : MooredFor P s) : MooredFor Q s := by
  have hfun : P = Q := funext fun w => propext (hPQ w)
  rwa [hfun] at h

/-- A winch record changes that neither was nor is PARTED. -/
theorem Moored.change (hsc : t.sc = s.sc) (htau : t.tau = s.tau)
    (hother : winchRec t (otherWinch w) = winchRec s (otherWinch w)) (hcons : winchConsistent (winchRec t w))
    (hrest : Machine.working s.sc.station = false → atRestWinch (winchRec t w)) (hparted : isParted t w ↔ isParted s w)
    (h : Moored s) : Moored t := by
  refine MooredFor.congr (fun v => ?_) (MooredFor.change hsc htau hother hcons hrest h)
  obtain rfl | rfl := eq_or_eq_otherWinch w v
  · exact hparted.symm
  · unfold isParted
    rw [hother]

theorem Moored.of_latchesOnly (hsc : t.sc = s.sc) (hcu : t.cu = s.cu) (htau : LatchesOnly s t) (h : Moored s) :
    Moored t := by
  have hsame := MooredFor.of_same (t := t) (by rw [hsc]; exact id) hcu htau.latch htau.causes htau.repeatTimer h
  exact hsame.congr fun v => by rw [isParted, isParted, winchRec_congr hcu]

/-- A winch in the states that the scan completions move. -/
def awake (x : Winch) : Prop := ¬ atRestWinch x ∧ x.state ≠ .parted

theorem MooredFor.not_resting (h : MooredFor P s) (hw : awake (winchRec s w)) {Q : Prop}
    (hst : Machine.working s.sc.station = false) : Q :=
  absurd (h.working hw.1) (by simp [hst])

/-- An operation ends in a state without one. -/
theorem MooredFor.ends {st : WinchState} {b : Bool} (he : winchEnds s t w x st b)
    (hst : st ≠ .takingUp ∧ st ≠ .rendering ∧ st ≠ .releasing) (hw : awake (winchRec s w)) (h : MooredFor P s) :
    MooredFor P t := by
  obtain ⟨hbecomes, -, honly⟩ := he
  exact h.change (honly .sc (by decide)) (honly .tau (by decide)) hbecomes.2.1
    (hbecomes.consistent (opFits_endedWinch x b hst)) fun hr => h.not_resting hw hr

theorem Moored.ends {st : WinchState} {b : Bool} (he : winchEnds s t w x st b)
    (hst : st ≠ .takingUp ∧ st ≠ .rendering ∧ st ≠ .releasing) (hp : st ≠ .parted) (hw : awake (winchRec s w))
    (h : Moored s) : Moored t := by
  obtain ⟨hbecomes, -, honly⟩ := he
  refine Moored.change (w := w) (honly .sc (by decide)) (honly .tau (by decide)) hbecomes.2.1
    (hbecomes.consistent (opFits_endedWinch x b hst)) (fun hr => MooredFor.not_resting h hw hr) ?_ h
  exact iff_of_false (by rw [isParted, hbecomes.state]; exact hp) hw.2

theorem Moored.starts {st : WinchState} {limit : Nat} (hs : winchStarts s t w x st limit)
    (hst : st = .takingUp ∨ st = .rendering ∨ st = .releasing) (hw : awake (winchRec s w)) (h : Moored s) : Moored t := by
  obtain ⟨hbecomes, -, honly⟩ := hs
  refine Moored.change (w := w) (honly .sc (by decide)) (honly .tau (by decide)) hbecomes.2.1
    (hbecomes.consistent (opFits_startedWinch _ x limit hst)) (fun hr => MooredFor.not_resting h hw hr) ?_ h
  refine iff_of_false ?_ hw.2
  rw [isParted, hbecomes.state]
  rcases hst with rfl | rfl | rfl <;> simp [startedWinch]

theorem Moored.becomes (hb : winchBecomes s t w x) (honly : onlyChanges [.tbi, .cu] s t) (hx : OpFits x)
    (hp : x.state ≠ .parted) (hw : awake (winchRec s w)) (h : Moored s) : Moored t :=
  Moored.change (w := w) (honly .sc (by decide)) (honly .tau (by decide)) hb.2.1 (hb.consistent hx)
    (fun hr => MooredFor.not_resting h hw hr) (iff_of_false (by rw [isParted, hb.state]; exact hp) hw.2) h

theorem Moored.enters {st : WinchState} (he : winchEnters s t w x st)
    (hst : st ≠ .takingUp ∧ st ≠ .rendering ∧ st ≠ .releasing ∧ st ≠ .parted) (hx : OpFits x)
    (hold : x.state ≠ .takingUp ∧ x.state ≠ .rendering ∧ x.state ≠ .releasing) (hw : awake (winchRec s w))
    (h : Moored s) : Moored t :=
  h.becomes he.1 he.2 (hx.entered hold ⟨hst.1, hst.2.1, hst.2.2.1⟩) hst.2.2.2 hw

theorem Moored.keeps (hk : winchKeeps s t w x) (hst : x.state = (winchRec s w).state) (hx : winchConsistent x)
    (h : Moored s) : Moored t := by
  obtain ⟨hrec, hother, honly⟩ := hk
  refine Moored.change (w := w) (honly .sc (by decide)) (honly .tau (by decide)) hother (by rw [hrec]; exact hx)
    (fun hr => ?_) (by rw [isParted, isParted, hrec, hst]) h
  have hrest := MooredFor.rest h hr w
  unfold atRestWinch at *
  rwa [hrec, hst]

/-! ### The trip latch and the own causes -/

/-- The setting of the latch at one winch: a take-up or a release ends; PARTED is neither entered nor left (R107). -/
theorem MooredFor.trips (ht : winchTrips s t w) (h : MooredFor P s) :
    MooredFor P t ∧ (∀ v, isParted t v ↔ isParted s v) ∧ t.tau = s.tau ∧ t.sc = s.sc := by
  obtain ⟨htake, hrelease, hother⟩ := ht
  have hends {st : WinchState} (he : winchEnds s t w (winchRec s w) st false)
      (hst : st ≠ .takingUp ∧ st ≠ .rendering ∧ st ≠ .releasing) (hp : st ≠ .parted) (hw : awake (winchRec s w)) :
      MooredFor P t ∧ (∀ v, isParted t v ↔ isParted s v) ∧ t.tau = s.tau ∧ t.sc = s.sc := by
    refine ⟨h.ends he hst hw, fun v => ?_, he.2.2 .tau (by decide), he.2.2 .sc (by decide)⟩
    obtain rfl | rfl := eq_or_eq_otherWinch w v
    · exact iff_of_false (by rw [isParted, he.1.state]; exact hp) hw.2
    · rw [isParted, isParted, he.1.2.1]
  by_cases h1 : (winchRec s w).state = .takingUp
  · refine hends (htake h1) ?_ ?_ (by simp [awake, atRestWinch, h1])
    all_goals split <;> simp
  · by_cases h2 : (winchRec s w).state = .releasing
    · exact hends (hrelease h2) (by simp) (by simp) (by simp [awake, atRestWinch, h2])
    · have hsame : t = s := hother h1 h2
      rw [hsame]
      exact ⟨h, fun _ => Iff.rfl, rfl, rfl⟩

/-- A setting of the trip latch keeps winches and causes (R63, R107, R138). -/
theorem MooredFor.latchSets {r : TripRecord} (hl : latchSets s t r) (h : MooredFor P s) :
    MooredFor P t ∧ (∀ v, isParted t v ↔ isParted s v)
      ∧ t.tau = { s.tau with latch := true, record := some r } ∧ t.sc = s.sc := by
  obtain ⟨u, v, htau, -, -, honly, ha, hb⟩ := hl
  have hsc : u.sc = s.sc := honly .sc (by decide)
  have hcu : u.cu = s.cu := honly .cu (by decide)
  have hu : MooredFor P u := by
    obtain ⟨hw, hrest, hn, hp, hr, hlat⟩ := h
    refine ⟨fun w => by rw [winchRec_congr hcu]; exact hw w, fun hst w => ?_, ?_⟩
    · rw [winchRec_congr hcu]
      exact hrest (by rwa [hsc] at hst) w
    · rw [htau]
      exact ⟨hn, hp, hr, fun _ => rfl⟩
  obtain ⟨hv, hpv, htv, hsv⟩ := hu.trips ha
  obtain ⟨ht, hpt, htt, hst⟩ := hv.trips hb
  refine ⟨ht, fun w => (hpt w).trans ((hpv w).trans ?_), htt.trans (htv.trans htau), hst.trans (hsv.trans hsc)⟩
  rw [isParted, isParted, winchRec_congr hcu]

/-- A cause begins: TAU's list follows the winches that have parted (R96, R137, R138). -/
theorem MooredFor.causeBegins {c : OwnCause} (hc : causeBegins s t c) (h : MooredFor P s)
    (hparted : ∀ v, isParted s v ↔ P v ∨ c = .parted v) : Moored t := by
  obtain ⟨hin, hout⟩ := hc
  by_cases hmem : c ∈ s.tau.causes
  · rw [hin hmem]
    refine h.congr fun v => ?_
    rw [hparted v, or_iff_left_of_imp]
    rintro rfl
    exact (h.causes.parted v).1 hmem
  · obtain ⟨v, hclear, hset, rfl⟩ := hout hmem
    have hv : MooredFor P v ∧ (∀ w, isParted v w ↔ isParted s w) ∧ v.tau.latch = true ∧ v.sc = s.sc := by
      by_cases hl : s.tau.latch = true
      · rw [hset hl]
        exact ⟨h.of_same (s := s) id rfl rfl rfl rfl, fun _ => Iff.rfl, hl, rfl⟩
      · obtain ⟨hm, hp, htau, hsc⟩ := h.latchSets (hclear (by simpa using hl))
        exact ⟨hm, hp, by rw [htau], hsc⟩
    obtain ⟨⟨hw, hrest, -⟩, hpv, hlatch, -⟩ := hv
    refine ⟨hw, hrest, ?_, fun w => ?_, by simp, fun _ => hlatch⟩
    · refine List.nodup_append.2 ⟨h.causes.nodup, List.nodup_singleton c, fun a ha b hb hab => ?_⟩
      rw [List.mem_singleton] at hb
      exact hmem (by rwa [hab, hb] at ha)
    · have hstate : isParted v w ↔ P w ∨ c = .parted w := (hpv w).trans (hparted w)
      simp only [List.mem_append, List.mem_singleton, h.causes.parted w]
      exact (or_congr_right eq_comm).trans hstate.symm

/-- A winch parts (R96). -/
theorem Moored.parts (hpart : winchParts s t w x) (hw : awake (winchRec s w)) (h : Moored s) : Moored t := by
  obtain ⟨u, he, hbegin⟩ := hpart
  have hu : MooredFor (isParted s) u := MooredFor.ends he (by simp) hw h
  refine MooredFor.causeBegins hbegin (MooredFor.of_same (s := u) id rfl rfl rfl rfl hu) fun v => ?_
  have hcu : isParted u v ↔ isParted s v ∨ OwnCause.parted w = .parted v := by
    obtain rfl | rfl := eq_or_eq_otherWinch w v
    · exact iff_of_true he.1.state (.inr rfl)
    · rw [isParted, isParted, he.1.2.1]
      cases w <;> simp [otherWinch]
  exact hcu

/-- A cause ends: the last one leaving stops the repeat timer (R137, R139). -/
theorem CausesMatch.ended {y : Tau} (c : OwnCause) (h : CausesMatch y P) :
    CausesMatch (causeEnded y c) fun v => P v ∧ c ≠ .parted v := by
  obtain ⟨hn, hp, hr, hl⟩ := h
  unfold causeEnded
  split
  next hin =>
    refine ⟨hn.erase c, fun v => ?_, ?_, fun hne => hl (List.ne_nil_of_mem hin)⟩
    · rw [hn.mem_erase_iff, hp, and_comm, ne_comm]
    · simp only
      split
      next hnil => simp [hnil]
      next hne => exact iff_of_true (hr.2 (List.ne_nil_of_mem hin)) hne
  next hout =>
    refine ⟨hn, fun v => ?_, hr, hl⟩
    rw [hp, iff_self_and]
    rintro hpv rfl
    exact hout ((hp v).2 hpv)

end

/-! ### The moorings under CU's and TAU's work -/

theorem setLatch_moored (r : TripRecord) {s : State} (h : Moored s) : Moored (setLatch r s) := by
  by_cases hl : s.tau.latch = true
  · rw [setLatch_of_set r hl]
    exact MooredFor.of_same (s := s) id rfl rfl rfl rfl h
  · obtain ⟨hm, hp, -⟩ := MooredFor.latchSets (latchSets_setLatch r (by simpa using hl)) h
    exact hm.congr fun v => (hp v).symm

/-- TRIP_IN is no parting. -/
theorem beginTripIn_moored {s : State} (h : Moored s) : Moored (beginCause .tripIn s) :=
  MooredFor.causeBegins (causeBegins_beginCause .tripIn s) h fun v => by simp

theorem endTripIn_moored {s : State} (h : Moored s) : Moored (endCause .tripIn s) := by
  rw [endCause_eq]
  obtain ⟨hn, hp, hr, hl⟩ := h.causes.ended .tripIn
  exact ⟨h.winch, h.rest, hn, fun w => (hp w).trans (and_iff_left nofun), hr, hl⟩

section
variable {s : State} {w : WinchId}

theorem opFits_of_consistent {x : Winch} (h : winchConsistent x) : OpFits x := h.2

theorem winchScan_moored (m : SampleSet) (h : Moored s) : Moored (winchScan w m s) := by
  obtain ⟨hunfit, hnone, hsome⟩ := winchScanned_winchScan m s w
  have hx : winchConsistent (winchRec s w) := h.winch w
  by_cases hfit : winchFitted s.sc.fitted w = true
  swap
  · rw [hunfit (by simpa using hfit)]
    exact h
  cases hr : givenBy (tensionOf m w) with
  | none =>
    obtain ⟨hend, hblind, hkeep⟩ := hnone hfit hr
    cases hst : (winchRec s w).state with
    | slack | takingUp | holding | overload | rendering | releasing =>
      exact h.ends (hend (by simp [hst])) (by simp) (by simp) (by simp [awake, atRestWinch, hst])
    | blind => exact h.keeps (hblind hst) rfl hx
    | unfitted | standby | released | parted => exact h.keeps (hkeep (by simp [hst])) rfl hx
  | some v =>
    obtain ⟨hkeep, htake, hhold, hover, hrender, hblind⟩ := hsome hfit v hr
    have hfits := opFits_of_consistent hx
    cases hst : (winchRec s w).state with
    | unfitted | standby | slack | releasing | released | parted => exact h.keeps (hkeep (by simp [hst])) rfl hx
    | takingUp =>
      obtain ⟨hend, hstay⟩ := htake hst
      by_cases hv : ((cfg3 s).tSet : Int) ≤ v
      · exact h.ends (hend hv) (by simp) (by simp) (by simp [awake, atRestWinch, hst])
      · exact h.keeps (hstay (by omega)) rfl hx
    | holding =>
      have hscan := hhold hst
      have hw : awake (winchRec s w) := by simp [awake, atRestWinch, hst]
      split_ifs at hscan
      · exact h.parts hscan hw
      · exact h.enters hscan (by simp) hfits (by simp [hst]) hw
      · exact h.starts hscan (.inl rfl) hw
      · exact h.keeps hscan rfl hx
      · exact h.keeps hscan rfl hx
    | overload =>
      have hscan := hover hst
      have hw : awake (winchRec s w) := by simp [awake, atRestWinch, hst]
      simp only at hscan
      split_ifs at hscan
      · exact h.parts hscan hw
      · exact h.starts hscan (.inr (.inl rfl)) hw
      · exact h.enters hscan (by simp) hfits (by simp [hst]) hw
      · exact h.becomes hscan.1 hscan.2 hfits (by simp [hst]) hw
      · exact h.becomes hscan.1 hscan.2 hfits (by simp [hst]) hw
    | rendering =>
      have hscan := hrender hst
      have hw : awake (winchRec s w) := by simp [awake, atRestWinch, hst]
      split_ifs at hscan
      · exact h.parts hscan hw
      · exact h.ends hscan (by simp) (by simp) hw
      · exact h.keeps hscan rfl hx
    | blind =>
      have hscan := hblind hst
      have hw : awake (winchRec s w) := by simp [awake, atRestWinch, hst]
      split_ifs at hscan
      · exact h.keeps hscan rfl hx
      · exact h.enters hscan (by simp) hfits (by simp [hst]) hw
      · exact h.enters hscan (by simp) hfits (by simp [hst]) hw
      · exact h.keeps hscan rfl hx

/-- A console request is taken in RUN and HOLD only, where MAKE_FAST may take a PARTED winch up again (R105). -/
theorem makeFast_moored (f : Frame) (hst : working s.sc.station = true) (h : Moored s) : Moored (makeFast f w s) := by
  obtain ⟨hloose, hparted, htaking, hbusy⟩ := makeFast_by_table f w s
  cases hx : (winchRec s w).state with
  | slack | released => exact h.starts (hloose (by simp [hx])) (.inl rfl) (by simp [awake, atRestWinch, hx])
  | takingUp => rw [htaking hx]; exact h
  | holding | overload | rendering | releasing | blind | standby =>
    rw [hbusy (by simp [hx])]
    exact MooredFor.of_same (s := s) id rfl rfl rfl rfl h
  | unfitted =>
    have hrefuse : makeFast f w s = refuse f .state s := by simp only [makeFast, hx]
    rw [hrefuse]
    exact MooredFor.of_same (s := s) id rfl rfl rfl rfl h
  | parted =>
    obtain ⟨hbecomes, -, honly⟩ := hparted hx
    have hcauses := h.causes.ended (.parted w)
    have hended : MooredFor (fun v => isParted s v ∧ OwnCause.parted w ≠ .parted v)
        { s with tau := causeEnded s.tau (.parted w) } := ⟨h.winch, h.rest, hcauses⟩
    have hchange := hended.change (honly .sc (by decide)) (honly .tau (by decide)) hbecomes.2.1
      (hbecomes.consistent (opFits_startedWinch _ _ _ (.inl rfl))) fun hr => absurd (hst ▸ hr) (by decide)
    refine hchange.congr fun v => ?_
    obtain rfl | rfl := eq_or_eq_otherWinch w v
    · exact iff_of_false (fun hv => hv.2 rfl) (by rw [isParted, hbecomes.state]; simp [startedWinch])
    · have hne : OwnCause.parted w ≠ .parted (otherWinch w) := by cases w <;> simp [otherWinch]
      rw [isParted, isParted, hbecomes.2.1]
      exact and_iff_left hne

theorem releaseFall_moored (f : Frame) (h : Moored s) : Moored (releaseFall f w s) := by
  have hrefuse (r : Reason) : Moored (refuse f r s) := MooredFor.of_same (s := s) id rfl rfl rfl rfl h
  simp only [releaseFall]
  split_ifs with hrel hno
  · exact h
  all_goals first | exact hrefuse _ | skip
  have hw : awake (winchRec s w) := by
    by_cases hh : (winchRec s w).state = .holding
    · simp [awake, atRestWinch, hh]
    · have hslack : (winchRec s w).state = .slack := by simpa [hh] using hno
      simp [awake, atRestWinch, hslack]
  exact h.starts (winchStarts_beginOp w .releasing _ s) (.inr (.inr rfl)) hw

theorem ownCouple_moored {act : Frame → WinchId → State → State} (f : Frame)
    (hact : ∀ w, Moored (act f w s)) (h : Moored s) : Moored (ownCouple act f s) := by
  unfold ownCouple
  repeat' split
  · exact h
  · exact h
  · exact hact _
  · exact MooredFor.of_same (s := s) id rfl rfl rfl rfl h

/-- The entry to RUN settles a winch at rest (R90). -/
theorem winchRun_moored (hst : working s.sc.station = true) (hw : atRestWinch (winchRec s w)) (h : Moored s) :
    Moored (winchRun w s) := by
  have hold : (winchRec s w).state ≠ .takingUp ∧ (winchRec s w).state ≠ .rendering ∧ (winchRec s w).state ≠ .releasing
      ∧ (winchRec s w).state ≠ .parted := by
    rcases hw with hw | hw <;> simp [hw]
  have hgo {t : State} {x : Winch} (hb : winchBecomes s t w x) (hsc : t.sc = s.sc) (htau : t.tau = s.tau) (hx : OpFits x)
      (hp : x.state ≠ .parted) : Moored t :=
    Moored.change (w := w) hsc htau hb.2.1 (hb.consistent hx) (fun hr => absurd (hst ▸ hr) (by decide))
      (iff_of_false (by rw [isParted, hb.state]; exact hp) hold.2.2.2) h
  unfold winchRun
  split
  · split
    next v _ =>
      have hsettled : settledWinch s v = .holding ∨ settledWinch s v = .slack := by
        unfold settledWinch
        split <;> simp
      obtain ⟨hb, honly⟩ := winchEnters_enterWinch (settledWinch s v) (winchKeeps_refl s w)
      refine hgo hb (honly .sc (by decide)) (honly .tau (by decide)) ?_ ?_
      · exact (opFits_of_consistent (h.winch w)).entered ⟨hold.1, hold.2.1, hold.2.2.1⟩ (by rcases hsettled with hs | hs <;> simp [hs])
      · rcases hsettled with hs | hs <;> simp [hs]
    next =>
      obtain ⟨hb, -, honly⟩ := winchEnds_finishOp .blind false (winchKeeps_refl s w)
      exact hgo hb (honly .sc (by decide)) (honly .tau (by decide)) (opFits_endedWinch _ _ (by simp)) (by simp [endedWinch])
  · exact h

theorem winchRun_other (w : WinchId) (s : State) :
    winchRec (winchRun w s) (otherWinch w) = winchRec s (otherWinch w) := by
  unfold winchRun
  split
  · split
    · exact (winchEnters_enterWinch _ (winchKeeps_refl s w)).1.2.1
    · exact (winchEnds_finishOp _ _ (winchKeeps_refl s w)).1.2.1
  · rfl

end

/-- The entry to RUN from JOINING, both winches at rest (R90). -/
theorem enterRun_moored {s : State} (hst : working s.sc.station = false) (h : Moored s) : Moored (enterRun s) := by
  have hrest := MooredFor.rest h hst
  have hunits : Moored (stuChange (tsuChange (setStation .run s))) := by
    have hrun : Moored (setStation .run s) := MooredFor.of_same (s := s) nofun rfl rfl rfl rfl h
    have htsu : Moored (tsuChange (setStation .run s)) := hrun.of_latchesOnly (by simp) (by simp) (.of_eq (by simp))
    exact htsu.of_latchesOnly (by simp) (by simp) (stuChange_latchesOnly _)
  have hcu : (stuChange (tsuChange (setStation .run s))).cu = s.cu := by simp [setStation]
  have hsc : (stuChange (tsuChange (setStation .run s))).sc.station = .run := by simp [setStation]
  have ha := winchRun_moored (w := .a) (by rw [hsc]; rfl) (by rw [winchRec_congr hcu]; exact hrest .a) hunits
  have hb := winchRun_moored (w := .b) (by rw [(winchRun_frame .a _).2.2.2.2.2.2.1, hsc]; rfl)
    (by rw [show WinchId.b = otherWinch .a from rfl, winchRun_other, winchRec_congr hcu]; exact hrest .b) ha
  exact Moored.of_latchesOnly (by simp [enterRun, cuRun]) (by simp [enterRun, cuRun]) (.of_eq (by simp [enterRun, cuRun])) hb

/-- A change between RUN and HOLD leaves the winches (R90, R202). -/
theorem change_moored {s : State} {st : StationState} (hst : working st = true) (h : Moored s) :
    Moored (queueStatus (stuChange (tsuChange (setStation st s)))) := by
  have hset : Moored (setStation st s) :=
    MooredFor.of_same (s := s) (fun hf => absurd (hst ▸ hf) (by decide)) rfl rfl rfl rfl h
  have htsu : Moored (tsuChange (setStation st s)) := hset.of_latchesOnly (by simp) (by simp) (.of_eq (by simp))
  have hstu := htsu.of_latchesOnly (t := stuChange (tsuChange (setStation st s))) (by simp) (by simp)
    (stuChange_latchesOnly _)
  exact hstu.of_latchesOnly (by simp) (by simp) (.of_eq (by simp))

theorem enterJoining_moored {s : State} (hst : working s.sc.station = false) (h : Moored s) :
    Moored (enterJoining s) := by
  have hstart : Moored (startJoining s) := MooredFor.of_same (s := s) (fun _ => hst) rfl rfl rfl rfl h
  have hfau := hstart.of_latchesOnly (t := fauJoin (startJoining s)) (by simp) (by simp) (fauJoin_latchesOnly _)
  have htsu := hfau.of_latchesOnly (t := tsuChange (fauJoin (startJoining s))) (by simp) (by simp) (.of_eq (by simp))
  have hstu := htsu.of_latchesOnly (t := stuChange (tsuChange (fauJoin (startJoining s)))) (by simp) (by simp)
    (stuChange_latchesOnly _)
  exact hstu.of_latchesOnly (by simp [enterJoining]) (by simp [enterJoining]) (.of_eq (by simp [enterJoining]))

theorem moored_reset {s : State} (hcu : s.cu = cuReset s.sc.fitted) (hcauses : s.tau.causes = [])
    (hrepeat : s.tau.repeatTimer = none) : Moored s := by
  have hrec (w : WinchId) : winchRec s w = winchReset (winchFitted s.sc.fitted w) := by
    cases w <;> simp [winchRec, hcu, cuReset, winchFitted]
  have hstate (b : Bool) : atRestWinch (winchReset b) := by cases b <;> simp [atRestWinch, winchReset]
  refine ⟨fun w => ?_, fun _ w => by rw [hrec]; exact hstate _, ?_, fun w => ?_, ?_, ?_⟩
  · rw [hrec]
    cases winchFitted s.sc.fitted w <;> simp [winchConsistent, winchReset, capped, operating]
  · simp [hcauses]
  · simp only [hcauses, List.not_mem_nil, false_iff, isParted, hrec]
    rcases hstate (winchFitted s.sc.fitted w) with h | h <;> simp [h]
  · simp [hcauses, hrepeat]
  · simp [hcauses]

/-- SAFE takes every fitted winch to STANDBY and empties the causes (R108, R142). -/
theorem duplicateSeen_moored {s : State} (h : Moored s) : Moored (duplicateSeen s) := by
  have hrec (w : WinchId) : winchRec (duplicateSeen s) w = winchSafe (winchRec s w) := by cases w <;> rfl
  have hsafe (x : Winch) (hx : winchConsistent x) : atRestWinch (winchSafe x) ∧ winchConsistent (winchSafe x) := by
    unfold winchSafe
    split
    next hun => exact ⟨.inr hun, hx⟩
    · exact ⟨.inl rfl, by simp [winchConsistent, capped, operating]⟩
  refine ⟨fun w => ?_, fun _ w => ?_, List.nodup_nil, fun w => ?_, by simp [duplicateSeen, enterSafe, syncFault, tauSafe],
    by simp [duplicateSeen, enterSafe, syncFault, tauSafe]⟩
  · rw [hrec]; exact (hsafe _ (h.winch w)).2
  · rw [hrec]; exact (hsafe _ (h.winch w)).1
  · have hnil : (duplicateSeen s).tau.causes = [] := rfl
    simp only [hnil, List.not_mem_nil, false_iff, isParted, hrec]
    rcases (hsafe _ (h.winch w)).1 with hst | hst <;> simp [hst]

theorem moored_keptByRows : KeptByRows Moored :=
  ⟨fun s => Moored.of_latchesOnly (s := s) rfl rfl rfl, fun _ s => Moored.of_latchesOnly (s := s) rfl rfl rfl,
    fun _ _ s => Moored.of_latchesOnly (s := s) rfl rfl rfl, fun _ _ => duplicateSeen_moored⟩

theorem ownCommission_moored {f : Frame} {s : State} (hst : s.sc.station = .listen) (h : Moored s) :
    Moored (ownCommission f s) := by
  obtain ⟨c, x, hc, ht⟩ | ⟨c, hc, ht⟩ := ownCommission_commissioned f s
  · rw [ht]
    exact MooredFor.of_same (s := s) (by simp [hc.station]) rfl rfl rfl rfl h
  · rw [ht]
    refine enterJoining_moored (by simp [hc.station, hst, working]) ?_
    exact MooredFor.of_same (s := s) (by simp [hc.station]) rfl rfl rfl rfl h

theorem ownClearTrip_moored {f : Frame} {s : State} (h : Moored s) : Moored (ownClearTrip f s) := by
  unfold ownClearTrip
  split_ifs with _ _ hcauses
  case neg =>
    rw [not_not] at hcauses
    exact ⟨h.winch, h.rest, h.causes.nodup, h.causes.parted, h.causes.repeats, fun hne => absurd hcauses hne⟩
  all_goals exact Moored.of_latchesOnly (s := s) rfl rfl rfl h

theorem ownerOf_moored {c : Instr} {f : Frame} {s : State} (hj : judge s f = .admitted) (hfits : frameFor c f = true)
    (h : Moored (taken s)) : Moored (ownerOf c f (taken s)) := by
  cases c with
  | trip =>
    simp only [ownerOf, ownTrip]
    split
    · exact h
    · exact setLatch_moored _ h
  | clearTrip => exact ownClearTrip_moored h
  | ackAlarms =>
    have hack : Moored (onLatched (ackLatched (taken s) (getU 4 2 f.payload)) (taken s)) :=
      Moored.of_latchesOnly (s := taken s) rfl rfl rfl h
    simp only [ownerOf, ownAck]
    repeat' split
    · exact h
    · exact hack.of_latchesOnly (by simp) (by simp) (.of_eq (by simp))
    · exact hack
  | holdStation =>
    simp only [ownerOf, ownHold]
    repeat' split
    · exact h
    · exact moored_keptByRows.refuse _ _ _ h
    · exact change_moored rfl h
  | releaseStation =>
    simp only [ownerOf, ownRelease]
    repeat' split
    · exact h
    · exact change_moored rfl h
    · exact moored_keptByRows.refuse _ _ _ h
  | coupleMakeFast =>
    have hst : working (taken s).sc.station = true := working_of_admitted_couple hj hfits
    exact ownCouple_moored f (fun w => makeFast_moored f hst h) h
  | coupleRelease => exact ownCouple_moored f (fun w => releaseFall_moored f h) h
  | commission => exact ownCommission_moored (station_of_admitted_commission hj hfits) h
  | _ => exact h.of_latchesOnly (by simp [ownerOf]) (by simp [ownerOf]) (.of_eq (by simp [ownerOf]))

/-- A timer of an operation in flight ends it. -/
theorem finishOp_moored {s u : State} {w : WinchId} {st : WinchState} {b : Bool} (hcu : u.cu = s.cu) (hsc : u.sc = s.sc)
    (htau : u.tau = s.tau) (hst : st ≠ .takingUp ∧ st ≠ .rendering ∧ st ≠ .releasing ∧ st ≠ .parted)
    (hw : awake (winchRec s w)) (h : Moored s) : Moored (finishOp w st b u) := by
  have hu : Moored u := h.of_latchesOnly hsc hcu (.of_eq htau)
  exact hu.ends (winchEnds_finishOp st b (winchKeeps_refl u w)) ⟨hst.1, hst.2.1, hst.2.2.1⟩ hst.2.2.2
    (by rw [winchRec_congr hcu]; exact hw)

/-- The brake dwell over, the operation drives (R98). -/
theorem startDrive_moored {s : State} {w : WinchId} (hop : operating (winchRec s w) = true) (h : Moored s) :
    Moored (startDrive w s) := by
  have hrec := winchRec_startDrive w s
  refine Moored.change (s := s) (w := w) rfl rfl (by cases w <;> rfl) ?_ (fun hr => ?_) ?_ h
  · obtain ⟨hcap, hphase, htimer, -, hbrake, -⟩ := h.winch w
    rw [hrec]
    exact ⟨hcap, iff_of_true rfl hop, htimer, by simp, hbrake, fun hne => absurd rfl hne⟩
  · rw [hrec]
    exact MooredFor.rest h hr w
  · unfold isParted
    rw [hrec]

theorem sendCap_moored {s : State} {w : WinchId} {c : Option Nat} (h : Moored s) : Moored (sendCap w c s) := by
  have hrec : winchRec (sendCap w c s) w =
      { winchRec s w with lastCap := c, capTimer := c.map fun _ => s.now + ms 1000 } := by
    rw [sendCap, winchRec_queueFrame, winchRec_onWinch_same]
  refine Moored.change (w := w) (by simp) (by simp) ?_ ?_ (fun hr => ?_) ?_ h
  · rw [sendCap, winchRec_queueFrame, winchRec_onWinch_other]
  · rw [hrec]; exact h.winch w
  · rw [hrec]; exact MooredFor.rest h hr w
  · unfold isParted
    rw [hrec]

theorem exec_moored {c : Instr} {s t : State} (hjoining : joiningTimed s) (h : exec c s = .next t) (hs : Moored s) :
    Moored t := by
  by_cases hrow : c ∈ frameRows
  · exact moored_keptByRows.exec hrow (fun f ha => ownerOf_moored ha.2.2) h hs
  by_cases hpart : StatePart.cu ∈ changedBy c ∨ StatePart.tau ∈ changedBy c
  · cases c with
    | powerOnReset n f =>
      cases h
      exact moored_reset rfl rfl rfl
    | lineReset n f =>
      have hreset : Moored (lineResetUnits n f s) := moored_reset rfl rfl rfl
      obtain rfl | rfl | ⟨-, rfl⟩ := lineReset_cases h
      · exact hs
      · exact hreset
      · exact enterJoining_moored rfl hreset
    | joinTimerExpiry =>
      obtain rfl | ⟨d, hd, -, rfl⟩ := expiry_cases (live_next h)
      · exact hs
      · have hst : s.sc.station = .joining := hjoining (by simp [hd])
        exact enterRun_moored (by simp [onSc, reach, hst, working]) (MooredFor.of_same (s := s) id rfl rfl rfl rfl hs)
    | tsuScanCompletion | fauScanCompletion | rundownTimeout | jamTimerExpiry | steerStopActive | accountTimerExpiry =>
      exact hs.of_latchesOnly (exec_onlyChanges h .sc (by decide)) (exec_onlyChanges h .cu (by decide))
        (exec_latchesOnly (.inl (by decide)) h)
    | cuScanCompletion =>
      change execCuScanCompletion s = .next t at h
      rw [live_next h]
      repeat' split
      · exact winchScan_moored _ (winchScan_moored _ (MooredFor.of_same (s := s) id rfl rfl rfl rfl hs))
      all_goals exact hs
    | tauScanCompletion =>
      change execTauScanCompletion s = .next t at h
      have hdue : Moored { s with due := { s.due with tau := false } } := MooredFor.of_same (s := s) id rfl rfl rfl rfl hs
      rw [live_next h]
      unfold tauScan
      repeat' split
      · exact beginTripIn_moored hdue
      · exact endTripIn_moored hdue
      · exact hdue
      all_goals exact hs
    | takeupLimitExpiry w =>
      change execTakeupLimitExpiry w s = .next t at h
      rw [live_next h]
      unfold atExpiry
      repeat' split
      · exact hs
      next hst _ d _ =>
        have hend := finishOp_moored (s := s) (u := reach d s) (w := w) (st := .slack) (b := false) rfl rfl rfl (by simp)
          (by simp [awake, atRestWinch, hst]) hs
        exact Moored.of_latchesOnly (s := finishOp w .slack false (reach d s)) rfl rfl (onLatched_latchesOnly _ _) hend
      all_goals exact hs
    | renderLimitExpiry w | releaseTimeExpiry w =>
      rw [live_next h]
      unfold atExpiry
      repeat' split
      · exact hs
      next hst _ _ _ => exact finishOp_moored (s := s) rfl rfl rfl (by simp) (by simp [awake, atRestWinch, hst]) hs
      all_goals exact hs
    | brakeDwellExpiry w =>
      rw [live_next h]
      unfold atExpiry
      repeat' split
      · exact hs
      next hop _ d _ =>
        exact startDrive_moored (by rw [winchRec_congr (t := reach d s) (s := s) rfl]; exact hop)
          (MooredFor.of_same (s := s) id rfl rfl rfl rfl hs)
      all_goals exact hs
    | capRepeatExpiry w =>
      change execCapRepeatExpiry w s = .next t at h
      rw [live_next h]
      unfold atExpiry
      repeat' split
      · exact hs
      · exact sendCap_moored (MooredFor.of_same (s := s) id rfl rfl rfl rfl hs)
      all_goals exact hs
    | tripRepeatExpiry =>
      change execTripRepeatExpiry s = .next t at h
      rw [live_next h]
      unfold atExpiry
      repeat' split
      · exact hs
      next c hc _ _ _ =>
        have hne : s.tau.causes ≠ [] := fun hnil => by simp [hnil] at hc
        exact ⟨hs.winch, hs.rest, hs.causes.nodup, hs.causes.parted, iff_of_true rfl hne, hs.causes.latched⟩
      all_goals exact hs
    | _ => first | exact absurd (by decide) hrow | simp [changedBy] at hpart
  · rw [not_or] at hpart
    have hsc : SameStation s.sc t.sc :=
      exec_sameStation hrow (fun n f hc => hpart.1 (by simp [hc, changedBy])) (fun n f hc => hpart.1 (by simp [hc, changedBy]))
        (fun hc => hpart.1 (by simp [hc, changedBy])) h
    have hcu : t.cu = s.cu := exec_onlyChanges h .cu hpart.1
    have htau : t.tau = s.tau := exec_onlyChanges h .tau hpart.2
    have hsame := MooredFor.of_same (t := t) (by rw [hsc.station]; exact id) hcu (by rw [htau]) (by rw [htau])
      (by rw [htau]) hs
    exact hsame.congr fun v => by rw [isParted, isParted, winchRec_congr hcu]

/-- Settles O57: HCU's record, and the winches with the own causes, each by what the commands keep. -/
theorem stepKeepsHelmAndCouplings : Obligations.StepKeepsHelmAndCouplings := by
  intro s t ⟨hhelm, hmoored⟩ hstep
  rw [← moored_iff] at hmoored ⊢
  refine ⟨?_, ?_⟩
  · exact step_keeps (P := helmConsistent) (fun _ _ h => h) (fun _ h => h) (fun _ _ _ => exec_helmConsistent) hhelm hstep
  · exact step_keeps (P := fun s => Moored s ∧ joiningTimed s)
      (fun s _ h => ⟨Moored.of_latchesOnly (s := s) rfl rfl rfl h.1, h.2⟩)
      (fun s h => ⟨Moored.of_latchesOnly (s := s) rfl rfl rfl h.1, h.2⟩)
      (fun _ _ _ h hs => ⟨exec_moored hs.2 h hs.1, exec_joiningTimed h hs.2⟩) hmoored hstep

end Sys2Proof.Machine
end

section
/-! PROOFS. What every step keeps of the fuel account and the locked record (R110, R118, R127, R133, R195), and the state after
reset. -/

namespace Sys2Proof.Machine

open Sys2Proof

/-! ### The fuel account -/

/-- FAU's record as O59 has it: the closed legs in order, the accounts in range, ring and levels in step, the check word over
the retention contents (R110, R118, R119, R123, R127, R133). -/
structure FauSound (f : Fau) : Prop where
  legs : legsOrdered f.kept
  account : accountBounded f.kept
  level : levelConsistent f
  check : f.check = retentionCrc f.kept

theorem natAbs_clampInt_accLimit (v : Int) : (clampInt (-accLimit) accLimit v).natAbs ≤ 549755813887 :=
  natAbs_clampInt_symm_le accLimit v

/-- A window keeps accumulators and residues in range (R114 to R116). -/
theorem windowStep_accountBounded {c : P4} {n : PulseCounts} {temp : Option Int} {k : Retained}
    (h : accountBounded k) : accountBounded (windowStep c n temp k) := by
  unfold windowStep
  split
  · exact h
  · have hacc := natAbs_clampInt_accLimit
    have hres (a r v f : Int) : (integrate a r v f).res.toNat ≤ 9999 := by
      have := natAbs_integrate_res_le a r v f
      omega
    have hfill (a r v f : Int) : (integrate a r v f).acc.toNat ≤ 549755813887 := by
      have := hacc (a + quot (v * f + r) 10000)
      simp only [integrate]
      omega
    exact ⟨hacc _, natAbs_integrate_res_le k.accC k.resC _ _, hfill k.accF k.resF _ _, hres k.accF k.resF _ _⟩

theorem windowStep_legs (c : P4) (n : PulseCounts) (temp : Option Int) (k : Retained) :
    (windowStep c n temp k).leg = k.leg ∧ (windowStep c n temp k).closed = k.closed := by
  unfold windowStep
  split <;> exact ⟨rfl, rfl⟩

theorem legsOrdered.of_same {k l : Retained} (hleg : l.leg = k.leg) (hclosed : l.closed = k.closed)
    (h : legsOrdered k) : legsOrdered l := by
  unfold legsOrdered at *
  rwa [hleg, hclosed]

/-- The queue after leg `n` opens: the newest 4 of those that precede it, in order (R127). -/
theorem queueLeg_ordered {q : List ClosedLeg} {r : ClosedLeg} (n : Seq16)
    (hprec : ∀ x ∈ q, precedes x.leg r.leg = true) (hq : q.Pairwise fun x y => precedes x.leg y.leg = true) :
    (queueLeg q r n).length ≤ 4 ∧ (∀ x ∈ queueLeg q r n, precedes x.leg n = true)
      ∧ (queueLeg q r n).Pairwise fun x y => precedes x.leg y.leg = true := by
  refine ⟨(List.length_filter_le _ _).trans ?_, fun x hx => (List.mem_filter.1 hx).2, ?_⟩
  · simp only [List.length_drop, List.length_append, List.length_singleton]
    omega
  · have hall : (q ++ [r]).Pairwise fun x y => precedes x.leg y.leg = true := by
      refine List.pairwise_append.2 ⟨hq, List.pairwise_singleton _ _, fun x hx y hy => ?_⟩
      rw [List.mem_singleton.1 hy]
      exact hprec x hx
    exact (hall.sublist (List.drop_sublist _ _)).filter _

theorem openedLeg_legsOrdered {k : Retained} (v : Option Nat) (g : Bool) (n : Seq16) (h : legsOrdered k) :
    legsOrdered (openedLeg k v g n) := queueLeg_ordered n h.2.1 h.2.2

theorem ringStep_length {r : Reading} {ring : List Nat} (h : ring.length ≤ 16) : (ringStep r ring).length ≤ 16 := by
  unfold ringStep
  split
  · cases r.value <;> simp <;> omega
  · exact h
  · exact Nat.zero_le _
  · exact Nat.zero_le _

theorem reconStep_le {b : Bool} {n : Nat} (h : n ≤ 2) : (reconStep b n).1 ≤ 2 := by
  unfold reconStep
  split_ifs <;> simp only <;> omega

namespace FauSound

variable {f : Fau}

/-- New retention contents come with their check word (R133). -/
theorem keep {k : Retained} (hlegs : legsOrdered k) (hacc : accountBounded k) (h : FauSound f) :
    FauSound { f with kept := k, check := retentionCrc k } := ⟨hlegs, hacc, h.level, rfl⟩

theorem window {m : SampleSet} {s : State} (h : FauSound s.fau) : FauSound (fauWindow m s).fau := by
  unfold fauWindow
  split
  · exact h
  · obtain ⟨hleg, hclosed⟩ := windowStep_legs (cfg4 s) m.counts (fuelTempOf m.fuelTemp) s.fau.kept
    exact h.keep (h.legs.of_same hleg hclosed) (windowStep_accountBounded h.account)

theorem levels {m : SampleSet} {s : State} (h : FauSound s.fau) : FauSound (fauLevel m s).fau := by
  obtain ⟨hring, -, -, hrecon⟩ := h.level
  refine ⟨h.legs, h.account, ⟨ringStep_length hring, ?_, ?_, hrecon⟩, h.check⟩
  · simp only [fauLevel, filtered]
    split <;> simp_all
  · simp only [fauLevel, filtered]
    split <;> simp_all

theorem capture {s : State} (h : FauSound s.fau) : FauSound (fauCapture s).fau := by
  unfold fauCapture
  split
  · exact h.keep h.legs h.account
  · exact h

theorem scan {m : SampleSet} {s : State} (h : FauSound s.fau) : FauSound (fauScan m s).fau := by
  unfold fauScan
  split
  · exact h
  · exact h.window.levels.capture

theorem reconciled {s : State} (h : FauSound s.fau) : FauSound (reconcile s).fau := by
  obtain ⟨hring, hlevel, hnow, hrecon⟩ := h.level
  unfold reconcile
  split
  · exact ⟨h.legs, h.account, ⟨hring, hlevel, hnow, reconStep_le hrecon⟩, rfl⟩
  · exact ⟨h.legs, h.account, ⟨hring, hlevel, hnow, Nat.zero_le _⟩, h.check⟩

theorem closedLeg {g : Bool} {n : Seq16} {s : State} (h : FauSound s.fau) : FauSound (closeLeg g n s).fau := by
  obtain ⟨hring, hlevel, hnow, -⟩ := h.level
  exact ⟨openedLeg_legsOrdered _ g n h.legs, by simp [closeLeg, setKept, openedLeg, accountBounded],
    ⟨hring, hlevel, hnow, Nat.zero_le _⟩, rfl⟩

/-- A reset clears the ring, the levels and the count, and keeps the contents (R110). -/
theorem reset {k : Retained} {w : BitVec 16} (hlegs : legsOrdered k) (hacc : accountBounded k)
    (hcheck : w = retentionCrc k) : FauSound (fauReset k w) :=
  ⟨hlegs, hacc, by simp [levelConsistent, fauReset], hcheck⟩

/-- The contents of a cleared domain (R134). -/
theorem cleared : FauSound (fauReset keptCleared (retentionCrc keptCleared)) :=
  reset (by simp [legsOrdered, keptCleared]) (by simp [accountBounded, keptCleared]) rfl

theorem joined {s : State} (h : FauSound s.fau) : FauSound (fauJoin s).fau := by
  unfold fauJoin
  split
  · exact ⟨h.legs, h.account, h.level, h.check⟩
  · exact h

end FauSound

theorem enterJoining_fauSound {s : State} (h : FauSound s.fau) : FauSound (enterJoining s).fau := by
  have hfau : (enterJoining s).fau = (fauJoin (startJoining s)).fau := by simp [enterJoining]
  rw [hfau]
  exact FauSound.joined (s := startJoining s) h

theorem adoptLeg_fauSound {g : Bool} {n : Seq16} {p : PeerState} {s : State} (h : FauSound s.fau) :
    FauSound (adoptLeg g n p s).fau := by
  unfold adoptLeg
  split
  · exact h.closedLeg
  · exact h

theorem fauSound_keptByRows : KeptByRows fun s => FauSound s.fau :=
  ⟨fun _ h => h, fun _ _ h => h, fun _ _ _ h => h, fun _ _ h => by simpa using h⟩

/-- Every command but a supply failure that loses the contents keeps the fuel account. -/
theorem exec_fauSound {c : Instr} {s t : State} (hloss : ∀ u v, c = .supplyFailure u v → losesRetention s u v = false)
    (h : exec c s = .next t) (hs : FauSound s.fau) : FauSound t.fau := by
  by_cases hfau : StatePart.fau ∈ changedBy c
  · cases c with
    | powerOnReset n f =>
      cases h
      simp only [resetUnits, fauPor]
      split
      · exact .cleared
      · exact .reset hs.legs hs.account hs.check
    | lineReset n f =>
      have hreset : FauSound (lineResetUnits n f s).fau := .reset hs.legs hs.account hs.check
      obtain rfl | rfl | ⟨-, rfl⟩ := lineReset_cases h
      · exact hs
      · exact hreset
      · exact enterJoining_fauSound hreset
    | supplyFailure u v =>
      rw [exec_supplyFailure, hloss u v rfl] at h
      cases h
      exact hs
    | leg =>
      refine fauSound_keptByRows.exec (c := .leg) (by decide) (fun f _ _ hu => ?_) h hs
      simp only [ownerOf, ownLeg, takeLeg]
      repeat' split
      · exact hu
      · exact hu.closedLeg
      · exact hu
    | account =>
      refine fauSound_keptByRows.exec (c := .account) (by decide) (fun f _ _ hu => ?_) h hs
      simp only [ownerOf, ownAccount]
      refine adoptLeg_fauSound ?_
      split
      · simpa using hu
      · exact hu
    | commission =>
      refine fauSound_keptByRows.exec (c := .commission) (by decide) (fun f _ _ hu => ?_) h hs
      obtain ⟨c, x, -, ht⟩ | ⟨c, -, ht⟩ := ownCommission_commissioned f (taken s)
      · rw [ownerOf, ht]
        exact hu
      · rw [ownerOf, ht]
        exact enterJoining_fauSound hu
    | fauScanCompletion =>
      change execFauScanCompletion s = .next t at h
      rw [live_next h]
      repeat' split
      · exact FauSound.scan (s := { s with due := { s.due with fau := false } }) hs
      all_goals exact hs
    | accountTimerExpiry =>
      obtain rfl | ⟨n, -, -, rfl⟩ := expiry_cases (live_next h)
      · exact hs
      · have hrec : FauSound
            (reconcile { reach n s with fau := { (reach n s).fau with accountTimer := some (n + ms 10000) } }).fau :=
          FauSound.reconciled ⟨hs.legs, hs.account, hs.level, hs.check⟩
        simp only
        split
        · exact hrec
        · exact hrec
    | _ => simp [changedBy] at hfau
  · have hsame : t.fau = s.fau := exec_onlyChanges h .fau hfau
    rwa [hsame]

/-! ### The locked record -/

theorem sameRecord.refl (c : Sc) : sameRecord c c := ⟨rfl, rfl, rfl, rfl, rfl, rfl⟩

theorem sameRecord.of_eq {c d : Sc} (h : d = c) : sameRecord c d := h ▸ .refl d

/-- Under the lock a COMMISSION changes the last refusal at most (R195, R200). -/
theorem ownCommission_locked {f : Frame} {s : State} (hlock : s.sc.lock = true) :
    sameRecord s.sc (ownCommission f s).sc := by
  unfold ownCommission
  rw [if_pos hlock]
  split <;> exact ⟨rfl, rfl, rfl, rfl, rfl, rfl⟩

/-- With the lock set, every command but a power-on reset keeps the record and the lock (R195). -/
theorem exec_sameRecord {c : Instr} {s t : State} (hlock : s.sc.lock = true) (hreset : ∀ n f, c ≠ .powerOnReset n f)
    (h : exec c s = .next t) : sameRecord s.sc t.sc := by
  by_cases hrow : c ∈ frameRows
  · have hkept : KeptByRows fun u => sameRecord s.sc u.sc :=
      ⟨fun _ h => h, fun _ _ h => h, fun _ _ _ h => h, fun _ _ h => h⟩
    refine hkept.exec hrow (fun f _ _ _ => ?_) h (.refl _)
    by_cases hc : c ∈ [Instr.holdStation, .releaseStation, .commission]
    · simp only [List.mem_cons, List.not_mem_nil, or_false] at hc
      obtain rfl | rfl | rfl := hc
      · simp only [ownerOf, ownHold]
        repeat' split
        · exact .refl _
        · exact .refl _
        · rw [enterHold_sc]; exact .refl _
      · simp only [ownerOf, ownRelease]
        repeat' split
        · exact .refl _
        · rw [leaveHold_sc]; exact .refl _
        · exact .refl _
      · exact ownCommission_locked (s := taken s) hlock
    · exact .of_eq (ownerOf_sc hc f _)
  by_cases hsc : StatePart.sc ∈ changedBy c
  · cases c with
    | powerOnReset n f => exact absurd rfl (hreset n f)
    | lineReset n f =>
      obtain rfl | rfl | ⟨-, rfl⟩ := lineReset_cases h
      · exact .refl _
      · exact .refl _
      · rw [enterJoining_sc]; exact .refl _
    | reportTimerExpiry =>
      obtain rfl | ⟨n, -, -, rfl⟩ := expiry_cases (live_next h)
      · exact .refl _
      · exact .refl _
    | joinTimerExpiry =>
      obtain rfl | ⟨n, -, -, rfl⟩ := expiry_cases (live_next h)
      · exact .refl _
      · rw [enterRun_sc]; exact .refl _
    | _ => first | exact absurd (by decide) hrow | simp [changedBy] at hsc
  · exact .of_eq (exec_onlyChanges h .sc hsc)

/-- Settles O59: the account by what the commands keep of FAU's record, the record by SC's rules under the lock. -/
theorem stepKeepsAccountAndRecord : Obligations.StepKeepsAccountAndRecord := by
  refine ⟨fun s t hloss ⟨hlegs, hacc, hlevel, hcheck⟩ hstep => ?_, fun s t hlock hreset hstep => ?_⟩
  · have hs : FauSound s.fau := ⟨hlegs, hacc, hlevel, hcheck⟩
    have ht : FauSound t.fau := by
      obtain ⟨-, rfl⟩ | ⟨c, rest, hc, h⟩ := step_cases hstep
      · exact hs
      · refine exec_fauSound (s := { s with pending := rest }) (fun u v hf => ?_) h hs
        by_contra hlose
        rw [Bool.not_eq_false] at hlose
        exact hloss ⟨u, v, rest, hf ▸ hc, hlose⟩
    exact ⟨ht.legs, ht.account, ht.level, ht.check⟩
  · obtain ⟨-, rfl⟩ | ⟨c, rest, hc, h⟩ := step_cases hstep
    · exact .refl _
    · exact exec_sameRecord (s := { s with pending := rest }) hlock (fun n m hcm => hreset n m rest (hcm ▸ hc)) h

/-- Settles O60: each condition by what it holds of the units' reset values. -/
theorem resetMeetsConditions : Obligations.ResetMeetsConditions := by
  unfold Obligations.ResetMeetsConditions
  intro s
  refine ⟨?drive, ?thrust, ?helm, ?tables, ?account⟩
  case drive =>
    obtain ⟨hpairs, hduties, hbrakes⟩ := (dchSound_iff s).1 (dchSound_reset true 0)
    exact ⟨hpairs, hduties, hbrakes, (faultExact_iff s).2 (by decide), nofun⟩
  case thrust =>
    obtain ⟨hsp, hgear⟩ := (thrustSound_iff s).1 ⟨thrustSound_reset rfl, fun _ => rfl⟩
    exact ⟨by simp [deliveriesFitted, s, State.reset, dueNone], hsp, hgear, rudderConsistent_reset rfl rfl⟩
  case helm =>
    exact ⟨(helmConsistent_iff s).2 ⟨helmInOrder_reset rfl, nofun⟩, (moored_iff s).1 ⟨moored_reset rfl rfl rfl, nofun⟩⟩
  case tables =>
    have hpt : PtSound s := ptSound_reset rfl
    have hssq : SsqSound s := ssqSound_reset rfl
    exact ⟨hpt.1, hpt.2, hssq.1, hssq.2, (tbiSound_iff s).1 tbiSound_reset⟩
  case account =>
    obtain ⟨hlegs, hacc, hlevel, hcheck⟩ := FauSound.cleared
    exact ⟨hlegs, hacc, hlevel, hcheck⟩

end Sys2Proof.Machine
end

section
/-! PROOFS. The line: reception, offering, the ends of an attempt, slots, lifetimes and MUTE (R176 to R183). -/

namespace Sys2Proof.Machine

open Sys2Proof

/-- A powered part does the work of a command. -/
theorem live_of_powered {f : State → State} {s : State} (hp : s.powered = true) : live f s = .next (f s) :=
  congrArg Host.Outcome.next (if_pos hp)

/-! ### Reception and offering (R176, R177, R183) -/

/-- Settles O8: the receive operation, one case per outcome of the line checks. -/
theorem frameReception : Obligations.FrameReception := by
  intro bits s hp
  change execFrameReception bits s = _
  simp only [execFrameReception, live, hp, if_true, onTbi, receive]
  cases lineCheck bits <;> rfl

theorem slotOf_reply (x : Slots) : slotOf x .reply = none := rfl

theorem mem_candidates {t : Tbi} {k : TxSlot} {x : TxFrame} : (k, x) ∈ candidates t ↔ isPending t k x := by
  simp only [candidates, allSlots, isPending, List.mem_append, List.mem_filterMap, Option.map_eq_some_iff,
    Prod.mk.injEq, Option.mem_toList]
  constructor
  · rintro (⟨k', -, x', hx, rfl, rfl⟩ | ⟨x', hx, rfl, rfl⟩)
    · exact .inl hx
    · exact .inr ⟨rfl, hx⟩
  · rintro (hx | ⟨rfl, hx⟩)
    · refine .inl ⟨k, ?_, x, hx, rfl, rfl⟩
      cases k with
      | reply => rw [slotOf_reply] at hx; cases hx
      | _ => decide
    · exact .inr ⟨x, hx, rfl, rfl⟩

theorem better_asymm {x y : TxFrame} (h : better x y = true) : better y x = false := by
  simp only [better, decide_eq_true_eq, decide_eq_false_iff_not] at *
  omega

/-- A pending frame better than every other stays the best of what has been seen. -/
def bestSoFar (p : TxSlot × TxFrame) (b : Option (TxSlot × TxFrame)) : Prop :=
  ∀ q, b = some q → q ≠ p → better p.2 q.2 = true

theorem pickBetter_best {p q : TxSlot × TxFrame} {b : Option (TxSlot × TxFrame)} (hb : bestSoFar p b)
    (hq : q ≠ p → better p.2 q.2 = true) :
    bestSoFar p (pickBetter b q) ∧ (b = some p ∨ q = p → pickBetter b q = some p) := by
  cases b with
  | none => exact ⟨fun r hr => by cases hr; exact hq, by rintro (h | rfl); cases h; rfl⟩
  | some y =>
    have hy := hb y rfl
    simp only [pickBetter]
    refine ⟨fun r hr => ?_, fun hsome => ?_⟩
    · split at hr <;> cases hr
      · exact hq
      · exact hy
    · by_cases hyp : y = p
      · subst hyp
        by_cases hqp : q = y
        · subst hqp
          split <;> rfl
        · rw [if_neg (by simp [better_asymm (hq hqp)])]
      · obtain h | rfl := hsome
        · exact absurd (Option.some.inj h) hyp
        · rw [if_pos (hy hyp)]

theorem foldl_pickBetter {p : TxSlot × TxFrame} (l : List (TxSlot × TxFrame)) (b : Option (TxSlot × TxFrame))
    (hb : bestSoFar p b) (hl : ∀ q ∈ l, q ≠ p → better p.2 q.2 = true) (hp : b = some p ∨ p ∈ l) :
    l.foldl pickBetter b = some p := by
  induction l generalizing b with
  | nil => simpa using hp
  | cons q l ih =>
    obtain ⟨hbest, hsome⟩ := pickBetter_best hb (hl q List.mem_cons_self)
    refine ih _ hbest (fun r hr => hl r (List.mem_cons_of_mem q hr)) ?_
    obtain h | h := hp
    · exact .inl (hsome (.inl h))
    · obtain rfl | h := List.mem_cons.1 h
      · exact .inl (hsome (.inr rfl))
      · exact .inr h

/-- The best pending frame is the one with precedence over every other (R177). -/
theorem bestPending_eq {t : Tbi} {k : TxSlot} {x : TxFrame} (hx : isPending t k x)
    (hbest : ∀ k' x', isPending t k' x' → (k', x') ≠ (k, x) →
      x.frame.rank < x'.frame.rank ∨ (x.frame.rank = x'.frame.rank ∧ x.seq < x'.seq)) :
    bestPending t = some (k, x) := by
  refine foldl_pickBetter _ none nofun (fun q hq hne => ?_) (.inr (mem_candidates.2 hx))
  exact decide_eq_true (hbest q.1 q.2 (mem_candidates.1 hq) hne)

theorem bestPending_eq_none {t : Tbi} (h : ∀ k x, ¬ isPending t k x) : bestPending t = none := by
  have hnil : candidates t = [] := List.eq_nil_iff_forall_not_mem.2 fun q hq => h q.1 q.2 (mem_candidates.1 hq)
  rw [bestPending, hnil]
  rfl

/-- Settles O9: the best pending frame starts where the line may be offered to. -/
theorem lineIdleStartsTheBest : Obligations.LineIdleStartsTheBest := by
  intro s hp
  change _ ∧ (_ → execLineIdle s = .next s)
  have hexec : execLineIdle s = .next (if mayOffer s then
      (match bestPending s.tbi with
       | some (k, x) => onTbi (startFrame k x) s
       | none => s) else s) := live_of_powered hp
  rw [hexec]
  refine ⟨fun k x hline hno hfly hx hbest => ?_, fun h => ?_⟩
  · change execLineIdle s = _
    rw [hexec, bestPending_eq hx hbest, if_pos (by simp [mayOffer, hline, hno, hfly])]
    rfl
  · obtain h | h | h | h := h
    · rw [if_neg (by simp [mayOffer, h])]
    · rw [if_neg (by simp [mayOffer, h])]
    · rw [if_neg (by simp [mayOffer, h])]
    · rw [bestPending_eq_none h]
      split <;> rfl

/-! ### The ends of an attempt (R178 to R181) -/

theorem endAttempt_eq {fl : InFlight} {t : Tbi} (h : t.inflight = some fl) : endAttempt t = attemptOver fl t := by
  unfold endAttempt attemptOver
  rw [h]
  cases hf : fl.fate <;> simp [hf, bump, saturated]

/-- Settles O10: the three ends, each by its operation on TBI's record. -/
theorem attemptEnds : Obligations.AttemptEnds := by
  intro s fl hp hfl
  have hover := endAttempt_eq hfl
  refine ⟨?sent, onTbi endAttempt s, live_of_powered hp, fun p hp => by cases p <;> simp_all [StatePart.same],
    hover, ?_⟩
  case sent =>
    have hexec : exec .transmissionComplete s = .next (onTbi frameSent s) := live_of_powered hp
    rw [hexec, onTbi, frameSent, hfl]
    simp
  · have hexec : exec .readbackError s = .next (syncFault (onTbi (fun t => muteAt s.now (abortFrame t)) s)) := by
      have hlive : exec .readbackError s = .next (if s.tbi.inflight.isSome then
          syncFault (onTbi (fun t => muteAt s.now (abortFrame t)) s) else s) := live_of_powered hp
      rw [hlive, hfl]
      rfl
    have haborts : (abortFrame s.tbi).aborts = s.tbi.aborts + 1 := by simp only [abortFrame, endAttempt_aborts]
    have hline : (endAttempt s.tbi).line = s.tbi.line := endAttempt_line s.tbi
    have htimer : (endAttempt s.tbi).muteTimer = s.tbi.muteTimer := by
      unfold endAttempt
      repeat' split
      all_goals rfl
    refine ⟨_, hexec, fun p hp => by cases p <;> simp_all [StatePart.same], ?_, rfl, fun h8 => ?_⟩
    · change muteAt s.now (abortFrame s.tbi) = _
      unfold muteAt
      rw [haborts]
      split
      · simp [abortFrame, endAttempt_aborts, onTbi, bump, saturated, ms]
      · simp [abortFrame, endAttempt_aborts, hline, htimer, onTbi, bump, saturated]
    · have hmute : (muteAt s.now (abortFrame s.tbi)).line = .mute := by
        unfold muteAt
        rw [haborts, if_pos h8]
      simp [outFault, syncFault, faultWanted, onTbi, hmute]

/-! ### Slots (R178, R179) -/

theorem slotOf_putSlot_same {x : Slots} {k : TxSlot} {f : Option TxFrame} (hk : k ≠ .reply) :
    slotOf (putSlot x k f) k = f := by
  cases k with
  | reply => exact absurd rfl hk
  | _ => rfl

theorem slotOf_putSlot_other {x : Slots} {k k' : TxSlot} {f : Option TxFrame} (hk : k' ≠ k) :
    slotOf (putSlot x k f) k' = slotOf x k' := by
  cases k <;> cases k' <;> first | rfl | exact absurd rfl hk

/-- Settles O11: one equation for each field that queuing and withdrawing change. -/
theorem queuedFrame : Obligations.QueuedFrame := by
  intro k f lifeEnd t hk
  refine ⟨slotOf_putSlot_same hk, fun k' hk' => slotOf_putSlot_other hk', ?_, ?_, rfl, rfl,
    fun k' hk' => slotOf_putSlot_other (k := .demand) hk', ?_⟩
  · simp only [queueTbi]
    cases slotOf t.slots k <;> simp [bump, saturated]
  · simp only [queueTbi]
    congr 1
    funext fl
    simp [overtaken]
  · simp only [withdrawDemand, beq_iff_eq]

/-! ### Lifetimes and MUTE (R178, R179, R181) -/

theorem flying_eq_some {k : TxSlot} {t : Tbi} {fl : InFlight} (h : flying k t = some fl) :
    t.inflight = some fl ∧ fl.slot = k ∧ fl.lifeOver = false := by
  simpa [flying, Option.filter_eq_some_iff] using h

theorem flying_of_inflight {t : Tbi} {fl : InFlight} (h : t.inflight = some fl) (hl : fl.lifeOver = false) :
    flying fl.slot t = some fl := by
  simp [flying, h, Option.filter, hl]

theorem expiring_slot {k : TxSlot} {t : Tbi} (hk : k ≠ .reply) :
    expiring k t = (slotOf t.slots k).map fun x =>
      (x, { t with slots := putSlot t.slots k none, counters := bump .lifetimeDrop t.counters }) := by
  cases k with
  | reply => exact absurd rfl hk
  | _ => rfl

theorem expiring_reply (t : Tbi) :
    expiring .reply t = (waitingReply t).map fun x =>
      (x.1, { t with replies := x.2, counters := bump .lifetimeDrop t.counters }) := rfl

/-- The pending frame's lifetime ends where it ends before the one in flight. -/
theorem exec_lifetime_pending {k : TxSlot} {s : State} {x : TxFrame} {u : Tbi} (hp : s.powered = true)
    (hx : expiring k s.tbi = some (x, u)) (hfirst : ∀ fl, flying k s.tbi = some fl → x.lifeEnd < fl.tx.lifeEnd) :
    exec (.frameLifetimeExpiry k) s = .next { s with now := max s.now x.lifeEnd, tbi := u } := by
  change execFrameLifetimeExpiry k s = _
  rw [execFrameLifetimeExpiry, live_of_powered hp]
  simp only [hx]
  cases hf : flying k s.tbi with
  | none => rfl
  | some fl =>
    simp only
    rw [if_neg (by have := hfirst fl hf; omega)]
    rfl

/-- The lifetime of the frame in flight ends where no pending frame of its slot ends before it. -/
theorem exec_lifetime_inFlight {s : State} {fl : InFlight} (hp : s.powered = true) (hfl : s.tbi.inflight = some fl)
    (hl : fl.lifeOver = false) (hfirst : ∀ x u, expiring fl.slot s.tbi = some (x, u) → fl.tx.lifeEnd ≤ x.lifeEnd) :
    exec (.frameLifetimeExpiry fl.slot) s = .next
      { s with now := max s.now fl.tx.lifeEnd, tbi := { s.tbi with inflight := some (endInFlight fl) } } := by
  change execFrameLifetimeExpiry fl.slot s = _
  rw [execFrameLifetimeExpiry, live_of_powered hp]
  simp only [flying_of_inflight hfl hl]
  cases hx : expiring fl.slot s.tbi with
  | none => simp [onTbi, reach, hfl]
  | some y =>
    simp only
    rw [if_pos (hfirst y.1 y.2 hx)]
    simp [onTbi, reach, hfl]

/-- Settles O12: which of two lifetimes ends first, by slot and by reply, and MUTE's end. -/
theorem lineTimers : Obligations.LineTimers := by
  intro s hp t dropped ended
  have hdrop : bump .lifetimeDrop t.counters = dropped := rfl
  refine ⟨fun k x hk hx hend => ?slot, fun x rest hr hfl => ?reply, fun y x rest fl hr hfl hs hend => ?second,
    fun fl hfl hl hslot hreply => ?inFlight, fun d hd => ?mute⟩
  case slot =>
    have hexp : expiring k s.tbi = some (x, { t with slots := putSlot t.slots k none, counters := dropped }) := by
      rw [expiring_slot hk, hx]
      rfl
    refine exec_lifetime_pending hp hexp fun fl hf => ?_
    obtain ⟨hin, hslot, hover⟩ := flying_eq_some hf
    obtain hend | hend := hend
    · exact absurd (hend fl hin hslot) (by simp [hover])
    · exact hend fl hin
  case reply =>
    have haway : (t.inflight.any fun fl => fl.slot == .reply) = false := by
      cases hin : t.inflight with
      | none => rfl
      | some fl => simpa using hfl fl hin
    have hexp : expiring .reply s.tbi = some (x, { t with replies := rest, counters := dropped }) := by
      rw [expiring_reply, waitingReply]
      simp only [t] at hr haway
      simp only [hr, haway]
      rfl
    refine exec_lifetime_pending hp hexp fun fl hf => ?_
    obtain ⟨hin, hslot, -⟩ := flying_eq_some hf
    exact absurd hslot (hfl fl hin)
  case second =>
    have haway : (t.inflight.any fun fl => fl.slot == .reply) = true := by simp [hfl, hs]
    have hexp : expiring .reply s.tbi = some (x, { t with replies := y :: rest, counters := dropped }) := by
      rw [expiring_reply, waitingReply]
      simp only [t] at hr haway
      simp only [hr, haway]
      rfl
    refine exec_lifetime_pending hp hexp fun fl' hf => ?_
    obtain ⟨hin, -, hover⟩ := flying_eq_some hf
    obtain rfl : fl = fl' := Option.some.inj (hfl.symm.trans hin)
    exact hend.resolve_left (by simp [hover])
  case inFlight =>
    have hexec := exec_lifetime_inFlight hp hfl hl fun x u hx => ?_
    · rw [hexec]
      simp [endInFlight, t]
    · by_cases hk : fl.slot = .reply
      · rw [hk, expiring_reply, Option.map_eq_some_iff] at hx
        obtain ⟨⟨z, zs⟩, hw, hz⟩ := hx
        obtain ⟨rfl, -⟩ := Prod.mk.inj hz
        have haway : (s.tbi.inflight.any fun fl => fl.slot == .reply) = true := by
          rw [hfl]
          simp [hk]
        unfold waitingReply at hw
        simp only [haway] at hw
        split at hw
        next hc => cases hc
        next y' x' rest' hr _ =>
          cases hw
          exact hreply hk y' z rest' hr
        next => cases hw
      · rw [expiring_slot hk, Option.map_eq_some_iff] at hx
        obtain ⟨z, hz, hzx⟩ := hx
        obtain ⟨rfl, -⟩ := Prod.mk.inj hzx
        exact hslot hk z hz
  case mute =>
    change execMuteTimerExpiry s = _
    simp only [t] at hd
    rw [execMuteTimerExpiry, live_of_powered hp]
    simp only [atExpiry, hd]
    simp [syncFault, faultWanted, onTbi, reach, t, beq_eq_decide]

end Sys2Proof.Machine
end

section
/-! PROOFS. Admission by its table, and the frames that it does not admit (R184 to R188). -/

namespace Sys2Proof.Machine

open Sys2Proof

/-! ### Admission (R184 to R188) -/

theorem rank_ext {f : Frame} {c : BitVec 4} : f.rank = c.toNat ↔ f.cls = c := BitVec.toNat_inj

theorem isHeard_eq (r : PeerRecord) : heardPlus r = isHeard r := rfl

theorem joined_eq (st : StationState) : joined st = decide (st = .joining ∨ st = .run ∨ st = .hold) := by
  cases st <;> rfl

theorem working_eq (st : StationState) : working st = decide (st = .run ∨ st = .hold) := by
  cases st <;> rfl

theorem notSafe_eq (st : StationState) : (st != .safe) = decide (st = .listen ∨ st = .joining ∨ st = .run ∨ st = .hold) := by
  cases st <;> rfl

theorem winchOf_isSome (n : Nat) : (winchOf n).isSome = decide (n = 1 ∨ n = 2) := by
  unfold winchOf
  split <;> simp_all

theorem declineOf_isSome (n : Nat) : (declineOf n).isSome = decide (n ≤ 2) := by
  match n with
  | 0 | 1 | 2 => rfl
  | n + 3 => simp [declineOf]

theorem subjectOf_isSome (n : Nat) : (subjectOf n).isSome = decide (1 ≤ n ∧ n ≤ 6) := by
  match n with
  | 0 | 1 | 2 | 3 | 4 | 5 | 6 => rfl
  | n + 7 => simp [subjectOf]

/-- A row of R185 with its four conditions spelt out; where every record will do, no record is refused. -/
theorem judgeRow_eq {s : State} {f : Frame} {r : Row} {sender here record field : Bool} {elsewhere noRecord : Verdict}
    (hsender : senderAllowed r.senders f.sender = sender) (hhere : r.here = here)
    (hrecord : recordMeets (peer s f.sender) r.need = record) (hfield : fieldsOk f = field)
    (helse : (match r.elsewhere with | some x => .refused x | none => Verdict.ignored) = elsewhere)
    (hno : record = false → noRecord = .refused (recordRefusal r.need)) :
    judgeRow s f r = rowVerdict sender here record field elsewhere noRecord := by
  subst hsender hhere hrecord hfield helse
  unfold judgeRow rowVerdict
  cases hr : recordMeets (peer s f.sender) r.need <;> simp_all <;> rfl

theorem senderAllowed_console (n : Station) : senderAllowed .console n = decide (n.toNat = 31) := by
  rw [senderAllowed, Bool.eq_iff_iff, beq_iff_eq, decide_eq_true_iff, ← BitVec.toNat_inj]
  rfl

theorem senderAllowed_anyone (n : Station) : senderAllowed .anyone n = decide (n.toNat ≠ 0) := by
  rw [senderAllowed, Bool.eq_iff_iff, bne_iff_ne, decide_eq_true_iff, ne_eq, ← BitVec.toNat_inj]
  rfl

section
variable {s : State} {f : Frame}

theorem judge_of_command (hown : ¬ (validStation s.sc.number = true ∧ f.sender = s.sc.number)) (hf : f.rank = 2) :
    judge s f = match kindOf f.byte0 with
      | some k => judgeRow s f (kindRow s.sc.station k)
      | none => unknownKind s f := by
  have hcls : f.cls = clsCommand := rank_ext.mp hf
  simp only [judge, Bool.and_eq_true, beq_iff_eq, if_neg hown, hcls, beq_self_eq_true, if_true, hf]
  rfl

theorem judge_of_class (hown : ¬ (validStation s.sc.number = true ∧ f.sender = s.sc.number)) (hlow : f.rank < 10)
    (hf : f.rank ≠ 2) : judge s f = judgeRow s f (classRow s f.cls) := by
  have hcls : ¬ f.cls = clsCommand := fun h => hf (rank_ext.mpr h)
  simp only [judge, Bool.and_eq_true, beq_iff_eq, if_neg hown, hcls, if_false, if_neg (Nat.not_le.mpr hlow)]

theorem judge_of_kind (hown : ¬ (validStation s.sc.number = true ∧ f.sender = s.sc.number)) (hf : f.rank = 2) {k : Kind}
    (hk : kindOf f.byte0 = some k) : judge s f = judgeRow s f (kindRow s.sc.station k) := by
  rw [judge_of_command hown hf, hk]

theorem judge_of_high (hown : ¬ (validStation s.sc.number = true ∧ f.sender = s.sc.number)) (hf : 10 ≤ f.rank) :
    judge s f = .defaultPath := by
  simp only [judge, Bool.and_eq_true, beq_iff_eq, if_neg hown, if_pos hf]

theorem fieldsOk_command (hf : f.rank = 2) :
    fieldsOk f = if f.byte0 = 3 then decide (getU 1 2 f.payload ≤ 2) else true := by
  have hkind : kindOf f.byte0 = some .decline ↔ f.byte0 = 3 := by
    unfold kindOf
    split <;> simp_all
  have hcls : f.cls = clsCommand := rank_ext.mp hf
  simp only [fieldsOk, hcls, clsCommand, hkind, declineOf_isSome]
  rfl

theorem fieldsOk_cap (hf : f.rank = 1) : fieldsOk f = decide (getU 1 0 f.payload = 1 ∨ getU 1 0 f.payload = 2) := by
  rw [← winchOf_isSome, fieldsOk, show f.cls.toNat = 1 from hf]
  rfl

theorem fieldsOk_couple (hf : f.rank = 4) :
    fieldsOk f = decide ((getU 1 1 f.payload = 1 ∨ getU 1 1 f.payload = 2)
      ∧ (getU 1 2 f.payload = 1 ∨ getU 1 2 f.payload = 2)) := by
  rw [Bool.decide_and, ← winchOf_isSome, fieldsOk, show f.cls.toNat = 4 from hf, Bool.decide_or]
  rfl

theorem fieldsOk_status (hf : f.rank = 5) : fieldsOk f = statusFieldsOk f.payload := by
  rw [fieldsOk, show f.cls.toNat = 5 from hf]
  rfl

theorem fieldsOk_account (hf : f.rank = 7) : fieldsOk f = decide (getU 1 0 f.payload = 1 ∨ getU 1 0 f.payload = 2) := by
  rw [fieldsOk, show f.cls.toNat = 7 from hf, Bool.decide_or]
  rfl

theorem fieldsOk_query (hf : f.rank = 9) : fieldsOk f = decide (1 ≤ getU 1 1 f.payload ∧ getU 1 1 f.payload ≤ 6) := by
  rw [← subjectOf_isSome, fieldsOk, show f.cls.toNat = 9 from hf]
  rfl

/-- The classes whose frames hold no enumeration that admission checks. -/
theorem fieldsOk_plain (hf : f.rank = 0 ∨ f.rank = 3 ∨ f.rank = 6 ∨ f.rank = 8) : fieldsOk f = true := by
  obtain h | h | h | h := hf <;> simp only [fieldsOk, show f.cls.toNat = _ from h]

theorem classRow_eq {n : Nat} (hf : f.rank = n) : classRow s f.cls = classRow s (BitVec.ofNat 4 n) := by
  rw [← hf, Frame.rank, BitVec.ofNat_toNat, BitVec.setWidth_eq]

end

/-- A COMMAND kind of the peers (R185). -/
theorem judge_of_helmKind {s : State} {f : Frame} (hown : ¬ (validStation s.sc.number = true ∧ f.sender = s.sc.number))
    (hf : f.rank = 2) (hk : 1 ≤ getU 1 0 f.payload ∧ getU 1 0 f.payload ≤ 4) :
    judge s f = rowVerdict (decide (1 ≤ f.sender.toNat ∧ f.sender.toNat ≤ 30))
      (decide (s.sc.station = .joining ∨ s.sc.station = .run ∨ s.sc.station = .hold)) (recordHas s f.sender (·.helm))
      (decide (getU 1 0 f.payload = 3 → getU 1 2 f.payload ≤ 2)) .ignored (.refused .notHelm) := by
  obtain ⟨k, hkind, hrow⟩ : ∃ k, kindOf f.byte0 = some k
      ∧ kindRow s.sc.station k = ⟨.peers, .helm, joined s.sc.station, none⟩ := by
    obtain h | h | h | h : f.byte0 = 1 ∨ f.byte0 = 2 ∨ f.byte0 = 3 ∨ f.byte0 = 4 := by
      unfold Frame.byte0
      omega
    all_goals rw [h]; exact ⟨_, rfl, rfl⟩
  rw [judge_of_kind hown hf hkind, hrow]
  refine judgeRow_eq rfl (joined_eq _) rfl ?_ rfl fun _ => rfl
  rw [fieldsOk_command hf]
  simp only [Frame.byte0]
  by_cases h : getU 1 0 f.payload = 3 <;> simp [h]

/-- A COMMAND kind of the console (R185): its row asks for the station's state only. -/
theorem judge_of_consoleKind {s : State} {f : Frame}
    (hown : ¬ (validStation s.sc.number = true ∧ f.sender = s.sc.number)) (hf : f.rank = 2) {n : Nat} (hn : getU 1 0 f.payload = n)
    {k : Kind} {here : Bool} (hk : kindOf n = some k) (hnot : n ≠ 3)
    (hrow : kindRow s.sc.station k = ⟨.console, .nothing, here, some .state⟩) :
    judge s f = rowVerdict (decide (f.sender.toNat = 31)) here true true (.refused .state) .ignored := by
  subst hn
  rw [judge_of_kind hown hf hk, hrow]
  refine judgeRow_eq (senderAllowed_console _) rfl rfl ?_ rfl (nomatch ·)
  exact (fieldsOk_command hf).trans (if_neg hnot)

theorem judge_of_noKind {s : State} {f : Frame} (hown : ¬ (validStation s.sc.number = true ∧ f.sender = s.sc.number))
    (hf : f.rank = 2) (hk : f.byte0 = 0 ∨ 9 ≤ f.byte0) :
    judge s f = if decide (1 ≤ f.sender.toNat ∧ f.sender.toNat ≤ 30)
      && decide (s.sc.station = .listen ∨ s.sc.station = .safe) then .ignored else .refused .field := by
  have hnone : kindOf f.byte0 = none := by
    unfold kindOf
    split <;> first | rfl | omega
  rw [judge_of_command hown hf, hnone]
  simp only [unknownKind, validStation, Bool.decide_or]
  rfl

/-- Settles O13: the row of each class and each COMMAND kind, with its conditions in the order of R184. -/
theorem admissionTable : Obligations.AdmissionTable := by
  intro s f hown
  refine ⟨fun h => ?trip, fun h => ?cap, fun h hk => judge_of_helmKind hown h hk, fun h hk => ?clear, fun h hk => ?ack,
    fun h hk => ?hold, fun h hk => judge_of_noKind hown h hk, fun h => ?demand, fun h => ?couple, fun h => ?status,
    fun h => ?leg, fun h => ?account, fun h => ?commission, fun h => ?query, fun h => judge_of_high hown h⟩
  case clear =>
    rw [← joined_eq]
    obtain hk | hk := hk
    · exact judge_of_consoleKind hown h hk (k := .clearTrip) rfl (by decide) rfl
    · exact judge_of_consoleKind hown h hk (k := .releaseStation) rfl (by decide) rfl
  case ack =>
    refine judge_of_consoleKind hown h hk (k := .ackAlarms) rfl (by decide) ?_
    rw [kindRow]
    cases s.sc.station <;> rfl
  case hold =>
    refine judge_of_consoleKind hown h hk (k := .holdStation) rfl (by decide) ?_
    rw [kindRow]
    cases s.sc.station <;> rfl
  all_goals rw [judge_of_class hown (by omega) (by omega), classRow_eq h]
  case trip => exact judgeRow_eq rfl (joined_eq _) rfl (fieldsOk_plain (.inl h)) rfl (nomatch ·)
  case cap => exact judgeRow_eq rfl (joined_eq _) rfl (fieldsOk_cap h) rfl fun _ => rfl
  case demand => exact judgeRow_eq rfl (joined_eq _) rfl (fieldsOk_plain (.inr (.inl h))) rfl fun _ => rfl
  case couple =>
    exact judgeRow_eq (senderAllowed_console _) (working_eq _) rfl (fieldsOk_couple h) rfl (nomatch ·)
  case status => exact judgeRow_eq rfl (notSafe_eq _) rfl (fieldsOk_status h) rfl (nomatch ·)
  case leg =>
    exact judgeRow_eq (senderAllowed_console _) (congrArg (· && _) (joined_eq _)) rfl
      (fieldsOk_plain (.inr (.inr (.inl h)))) rfl (nomatch ·)
  case account => exact judgeRow_eq rfl (notSafe_eq _) rfl (fieldsOk_account h) rfl fun _ => rfl
  case commission =>
    exact judgeRow_eq (senderAllowed_console _) (beq_eq_decide _ _) rfl
      (fieldsOk_plain (.inr (.inr (.inr h)))) rfl (nomatch ·)
  case query =>
    exact judgeRow_eq (senderAllowed_anyone _) rfl rfl (fieldsOk_query h) rfl (nomatch ·)

/-- Settles O14: the counts of the three verdicts that hand the frame to no owner; REPLY and the classes without a
meaning have the last of them. -/
theorem framesNotAdmitted : Obligations.FramesNotAdmitted := by
  refine ⟨fun c s f hp hf hfits => ?_, fun s f hp hf hown hhigh => ?_⟩
  · rw [exec_settles hp hf hfits]
    exact ⟨fun hj => by rw [hj]; rfl, fun r hj => by rw [hj]; rfl, fun hj => by rw [hj]; rfl⟩
  · have hfits : frameFor (if f.rank = 10 then .reply else .unknownClass) f = true := by
      split
      · next h => exact beq_iff_eq.mpr (rank_ext.mp h)
      · next h => exact decide_eq_true (by omega)
    rw [exec_settles hp hf hfits, judge_of_high hown hhigh]
    rfl

end Sys2Proof.Machine
end

section
/-! PROOFS. The peer table: STATUS, CAP, ACCOUNT, the deadlines and the convoy view (R4 to R18, R125). -/

namespace Sys2Proof.Machine

open Sys2Proof

/-! ### The peer table (chapter 1) -/

theorem validStation_of_admitted {s : State} {f : Frame} {c : BitVec 4} (hadm : admits s f) (hf : f.cls = c)
    (hc : c ≠ clsCommand) (hrow : (classRow s c).senders = .peers) : validStation f.sender = true := by
  obtain ⟨-, r, hr, hsender, -⟩ := judge_admitted hadm.2.2
  rw [rowOf_class (c := c) (beq_iff_eq.mpr hf) hc, Option.some.injEq] at hr
  rwa [← hr, hrow] at hsender

theorem peer_putPeer_same {n : Station} (hn : validStation n = true) (r : PeerRecord) (s : State) :
    peer (putPeer n r s) n = r := by
  rw [peer_putPeer, if_pos ⟨rfl, hn⟩]

theorem peer_putPeer_other {n m : Station} (hm : m ≠ n) (r : PeerRecord) (s : State) :
    peer (putPeer n r s) m = peer s m := by
  rw [peer_putPeer, if_neg fun h => hm h.1]

theorem vacateIf_hcu (n : Station) (s : State) :
    (vacateIf n s).hcu = { s.hcu with vacant := s.hcu.vacant || decide (s.hcu.holder = some n) } := by
  unfold vacateIf
  split
  next h => simp [onHcu, h]
  next h => simp [h]

theorem helmSeen_hcu (n : Station) (part : Option HelmPart) (s : State) :
    (helmSeen n part s).hcu =
      { s.hcu with
        vacant := s.hcu.vacant || (decide (s.hcu.holder = some n) && part.any (·.state == .standby)) } := by
  unfold helmSeen
  split
  next p =>
    split
    next h => simp [vacateIf_hcu, h]
    next h => simp [beq_eq_false_iff_ne.mpr h]
  next => simp

/-! #### The fields of a STATUS, clamped (R186, R208) -/

theorem getU_of_slice {n i m j : Nat} (p : List Byte) (h : i + n ≤ m) :
    getU n i ((p.drop j).take m) = getU n (j + i) p := by
  have hdrop : (((p.drop j).take m).drop i).take n = (p.drop (j + i)).take n := by
    rw [List.drop_take, List.take_take, List.drop_drop, min_eq_left (by omega)]
  simp only [getU, hdrop]

theorem getS_of_slice {n i m j : Nat} (p : List Byte) (h : i + n ≤ m) :
    getS n i ((p.drop j).take m) = getS n (j + i) p := by
  simp only [getS, getU_of_slice p h]

theorem getCap_eq (limit i : Nat) (p : List Byte) :
    getCap limit i p = if getU 2 i p = 65535 then none else some (min limit (getU 2 i p)) := by
  change (if getU 2 i p = 65535 then none else some (getU 2 i p)).map (min limit) = _
  split <;> rfl

theorem getEngine_of_slice (p : List Byte) (j : Nat) :
    (getEngine ((p.drop j).take 5)).power = min 8000 (getU 2 j p)
      ∧ (getEngine ((p.drop j).take 5)).sp = max (-8000) (min 8000 (getS 2 (j + 2) p)) := by
  simp [getEngine, clampInt, getU_of_slice, getS_of_slice]

theorem getRudder_of_slice (p : List Byte) (j : Nat) :
    (getRudder ((p.drop j).take 5)).angle = max (-1800) (min 1800 (getS 2 j p))
      ∧ (getRudder ((p.drop j).take 5)).gain = min 1000 (getU 2 (j + 2) p) := by
  simp [getRudder, clampInt, getU_of_slice, getS_of_slice]

theorem getWinch_of_slice (limit : Nat) (p : List Byte) (j : Nat) :
    (getWinch limit ((p.drop j).take 5)).tension = min 4000 (getU 2 (j + 1) p)
      ∧ (getWinch limit ((p.drop j).take 5)).cap =
          if getU 2 (j + 3) p = 65535 then none else some (min limit (getU 2 (j + 3) p)) := by
  simp [getWinch, getCap_eq, getU_of_slice]

/-- A part is the slice at the place the earlier parts leave, if its machinery is fitted. -/
theorem cutPart_drop (on : Bool) (n j : Nat) (p : List Byte) :
    cutPart on n (p.drop j) =
      (if on then some ((p.drop j).take n) else none, p.drop (j + if on then n else 0)) := by
  cases on <;> simp [cutPart]

theorem getStatus_full {limit : Nat} {p : List Byte} {x : FullStatus} (h : getStatus limit p = .full x) :
    statusClamped limit p x := by
  unfold getStatus at h
  split at h
  · cases h
  · cases h
    simp only [statusClamped, statusParts, cutPart_drop, Option.map_eq_some_iff, forall_exists_index, and_imp,
      Option.ite_none_right_eq_some, Option.some.injEq]
    refine ⟨rfl, ?_, ?_, ?_, ?_⟩
    · rintro _ _ _ rfl rfl
      exact getEngine_of_slice p _
    · rintro _ _ _ rfl rfl
      exact getRudder_of_slice p _
    · rintro _ _ _ rfl rfl
      exact getWinch_of_slice limit p _
    · rintro _ _ _ rfl rfl
      exact getWinch_of_slice limit p _

theorem heardState_eq (st : PeerState) :
    heardState st = (match st with | .absent | .lost => .heard | .heard | .live | .stale => .live) := by
  cases st <;> rfl

theorem statusRecord_state (now : Nat) (rep : StatusReport) (r : PeerRecord) :
    (statusRecord now rep r).state = heardState r.state := by
  cases rep <;> rfl

theorem statusRecord_account (now : Nat) (rep : StatusReport) (r : PeerRecord) :
    (statusRecord now rep r).account = if r.state = .lost then none else r.account := by
  cases rep <;> rfl

/-- PT's part in a STATUS is in the sender's record and the moment alone. -/
theorem ownStatus_taken {f : Frame} {s : State} {r : PeerRecord}
    (h : statusRecord s.now (getStatus (capLimit s) f.payload) (peer s f.sender) = r) :
    ownerOf .status f (taken s) = helmSeen f.sender r.helm (putPeer f.sender r (taken s)) := by
  subst h
  rfl

/-- Settles O16: the sender's record is the one that PT builds from the report, field by field. -/
theorem statusUpdatesTheSender : Obligations.StatusUpdatesTheSender := by
  intro s f hadm hf
  have hvalid : validStation f.sender = true := validStation_of_admitted hadm hf (by decide) rfl
  have hexec := exec_admitted (c := .status) hadm (beq_iff_eq.mpr hf)
  generalize hrec : statusRecord s.now (getStatus (capLimit s) f.payload) (peer s f.sender) = r
  rw [ownStatus_taken hrec] at hexec
  refine ⟨_, hexec, ?_⟩
  have hsame : peer (helmSeen f.sender r.helm (putPeer f.sender r (taken s))) f.sender = r :=
    (peer_congr (s := putPeer f.sender r (taken s)) (by simp) _).trans (peer_putPeer_same hvalid _ _)
  refine ⟨by simp, fun n hn => ?_, ?_⟩
  · exact (peer_congr (s := putPeer f.sender r (taken s)) (by simp) n).trans (peer_putPeer_other hn _ _)
  rw [hsame, ← hrec, statusRecord_state, statusRecord_account]
  refine ⟨heardState_eq _, rfl, fun x hx => ?_, fun x hx => getStatus_full hx, fun m k hx => ?_, ?_, fun p hp => ?_⟩
  · rw [hx]
    refine ⟨rfl, ?_, ?_, rfl, rfl, rfl, rfl, rfl, rfl⟩ <;> simp only [statusRecord, heard, ms] <;> congr 2 <;> omega
  · rw [hx]
    exact ⟨rfl, rfl, rfl, rfl, rfl, rfl, rfl, rfl, rfl⟩
  · rw [helmSeen_hcu]
    simp [taken, dequeue]
  · cases p <;> simp_all [StatePart.same, taken, dequeue]

/-- Settles O17: the named winch's part takes the figures of the frame, or the record's fitted mask refuses it. -/
theorem capUpdatesTheWinch : Obligations.CapUpdatesTheWinch := by
  intro s f w hadm hf hw
  have hvalid : validStation f.sender = true := validStation_of_admitted hadm hf (by decide) rfl
  have hexec := exec_admitted (c := .cap) hadm (beq_iff_eq.mpr hf)
  simp only [ownerOf, ownCap, hw] at hexec
  refine ⟨fun hfit => ?_, fun hfit => ?_⟩
  · rw [if_pos (show winchFitted (recordFitted (peer (taken s) f.sender)) w = true from hfit)] at hexec
    refine ⟨_, hexec, by simp, fun n hn => peer_putPeer_other hn _ _, ?_, fun p hp => ?_⟩
    · rw [peer_putPeer_same hvalid, getCap_eq]
      cases w <;> rfl
    · cases p <;> simp_all [StatePart.same, taken, dequeue]
  · exact hexec.trans (congrArg Host.Outcome.next (if_neg (ne_true_of_eq_false hfit)))

/-! ### ACCOUNT and the legs (R14, R124 to R129) -/

/-- The queue after leg `n` opens: the oldest record gives way to a fifth, then those serially before `n` stay (R127). -/
theorem queueLeg_eq {q : List ClosedLeg} (hq : q.length ≤ 4) (r : ClosedLeg) (n : Seq16) :
    queueLeg q r n = (if q.length < 4 then q ++ [r] else q.tail ++ [r]).filter fun x => succeeds n x.leg := by
  have hdrop : (q ++ [r]).drop (q.length + 1 - 4) = if q.length < 4 then q ++ [r] else q.tail ++ [r] := by
    split
    · rw [show q.length + 1 - 4 = 0 by omega, List.drop_zero]
    · rw [show q.length + 1 - 4 = 1 by omega, List.drop_one, List.tail_append_of_ne_nil]
      rintro rfl
      simp at *
  rw [queueLeg, hdrop]
  rfl

/-- Closing the open leg, in a state that has FAU's and TBI's records of the frame's taking. -/
theorem legOpened_closeLeg {s u : State} (gap : Bool) (n : Seq16) (hlen : s.fau.kept.closed.length ≤ 4)
    (hfau : u.fau = s.fau) (htbi : u.tbi = (taken s).tbi) (hsc : u.sc = s.sc) (hnow : u.now = s.now) :
    legOpened s (closeLeg gap n u) n gap := by
  have hopened : (closeLeg gap n u).fau =
      { s.fau with
        kept := openedLeg s.fau.kept s.fau.vNow gap n
        check := retentionCrc (openedLeg s.fau.kept s.fau.vNow gap n), recon := 0 } := by
    simp [closeLeg, setKept, hfau]
  have hqueued : (closeLeg gap n u).tbi =
      queuedTbi u .accountClosed clsAccount (putAccount (closedAccount (closedOf u.fau.kept u.fau.vNow gap))) 10000 := rfl
  unfold legOpened
  refine ⟨?_, ?_⟩
  · rw [hopened, openedLeg, queueLeg_eq hlen]
    rfl
  · rw [hqueued, queuedTbi, hfau, htbi, hsc, hnow]
    rfl

theorem replacesAccount_iff (x y : Account) :
    replacesAccount x (some y) = true ↔
      x.flags.restarted = true ∨ succeeds x.leg y.leg = true ∨ (x.leg = y.leg ∧ (x.closed = true ∨ y.closed = false)) := by
  simp [replacesAccount, or_assoc]

/-- PT's part in an ACCOUNT: the record with the account part where R14's table stores it. -/
def accountStored (n : Station) (x : Account) (s : State) : State :=
  if replacesAccount x (peer s n).account then putPeer n { peer s n with account := some x } s else s

theorem ownAccount_eq (f : Frame) (s : State) :
    ownAccount f s =
      adoptLeg (getAccount f.payload).closed (getAccount f.payload).leg (peer s f.sender).state
        (accountStored f.sender (getAccount f.payload) s) := rfl

theorem accountStored_onlyChanges (n : Station) (x : Account) (s : State) :
    onlyChanges [.pt] s (accountStored n x s) := by
  unfold accountStored
  split
  · exact fun p hp => by cases p <;> simp_all [StatePart.same]
  · exact .refl _ _

theorem closeLeg_onlyChanges (g : Bool) (n : Seq16) (s : State) : onlyChanges [.tbi, .fau] s (closeLeg g n s) :=
  fun p hp => by cases p <;> simp_all [StatePart.same]

theorem taken_onlyChanges (s : State) : onlyChanges [.tbi] s (taken s) :=
  fun p hp => by cases p <;> simp_all [StatePart.same, taken, dequeue]

theorem peer_accountStored_other {n m : Station} (hm : m ≠ n) (x : Account) (s : State) :
    peer (accountStored n x s) m = peer s m := by
  unfold accountStored
  split
  · exact peer_putPeer_other hm _ _
  · rfl

theorem peer_accountStored_same {n : Station} (hn : validStation n = true) (x : Account) (s : State) :
    peer (accountStored n x s) n =
      if replacesAccount x (peer s n).account then { peer s n with account := some x } else peer s n := by
  unfold accountStored
  split
  · exact peer_putPeer_same hn _ _
  · rfl

/-- Settles O18: PT stores the account part, then FAU adopts the leg of a LIVE record that lies ahead. -/
theorem accountStoredAndAdopted : Obligations.AccountStoredAndAdopted := by
  unfold Obligations.AccountStoredAndAdopted
  intro s f hadm hf hlen
  have hvalid : validStation f.sender = true := validStation_of_admitted hadm hf (by decide) rfl
  have hexec := exec_admitted (c := .account) hadm (beq_iff_eq.mpr hf)
  simp only [ownerOf, ownAccount_eq] at hexec
  have hrest := accountStored_onlyChanges f.sender (getAccount f.payload) (taken s)
  have hstored : onlyChanges [.tbi, .pt] s (accountStored f.sender (getAccount f.payload) (taken s)) :=
    ((taken_onlyChanges s).mono (by decide)).trans (hrest.mono (by decide))
  have hpeer (n : Station) : peer (adoptLeg (getAccount f.payload).closed (getAccount f.payload).leg
      (peer (taken s) f.sender).state (accountStored f.sender (getAccount f.payload) (taken s))) n =
      peer (accountStored f.sender (getAccount f.payload) (taken s)) n := peer_congr (by simp) n
  have hsender := (hpeer f.sender).trans (peer_accountStored_same hvalid _ _)
  refine ⟨_, hexec, fun n hn => (hpeer n).trans (peer_accountStored_other hn _ _), fun hnone => ?_, fun y hy => ⟨fun h => ?_,
    fun h => ?_⟩, fun hadopts => ?_, fun hnot => ?_⟩
  · exact hsender.trans (if_pos (by rw [show (peer (taken s) f.sender).account = none from hnone]; rfl))
  · exact hsender.trans (if_pos (by
      rw [show (peer (taken s) f.sender).account = some y from hy]
      exact (replacesAccount_iff _ _).mpr h))
  · exact hsender.trans (if_neg (by
      rw [show (peer (taken s) f.sender).account = some y from hy]
      exact fun h' => h ((replacesAccount_iff _ _).mp h')))
  · have hadopt : adoptLeg (getAccount f.payload).closed (getAccount f.payload).leg (peer (taken s) f.sender).state
        (accountStored f.sender (getAccount f.payload) (taken s)) =
        closeLeg true (getAccount f.payload).leg (accountStored f.sender (getAccount f.payload) (taken s)) :=
      if_pos (by
        rw [hrest .sc (by decide), hrest .fau (by decide)]
        exact hadopts)
    rw [hadopt]
    exact ⟨legOpened_closeLeg _ _ hlen (hrest .fau (by decide)) (hrest .tbi (by decide))
      (hrest .sc (by decide)) (hrest .now (by decide)),
      (hstored.mono (by decide)).trans ((closeLeg_onlyChanges _ _ _).mono (by decide))⟩
  · have hadopt : adoptLeg (getAccount f.payload).closed (getAccount f.payload).leg (peer (taken s) f.sender).state
        (accountStored f.sender (getAccount f.payload) (taken s)) =
        accountStored f.sender (getAccount f.payload) (taken s) :=
      if_neg (by
        rw [hrest .sc (by decide), hrest .fau (by decide)]
        exact hnot)
    rw [hadopt]
    exact ⟨hrest .tbi (by decide), hstored⟩

/-! ### Deadlines and the convoy view (R8, R9, R15 to R18) -/

theorem validStation_of_peer {s : State} {n : Station} (h : (peer s n).state ≠ .absent) : validStation n = true := by
  by_contra hn
  rw [peer_of_invalid (Bool.not_eq_true _ ▸ hn)] at h
  exact h rfl

/-- The table's records are those of the stations 1..30, in order. -/
theorem pt_toList (s : State) : s.pt.toList = (List.range 30).map fun i => peer s (BitVec.ofNat 5 (i + 1)) := by
  refine List.ext_getElem (by simp) fun i hi _ => ?_
  have hi : i < 30 := by simpa using hi
  have hnum : (BitVec.ofNat 5 (i + 1)).toNat = i + 1 := by
    rw [BitVec.toNat_ofNat]
    omega
  have hvalid : validStation (BitVec.ofNat 5 (i + 1)) = true := by
    rw [validStation, decide_eq_true_iff]
    omega
  rw [List.getElem_map, List.getElem_range, peer, if_pos hvalid, hnum]
  simp [Vector.getD, Array.getD, hi]

theorem mem_pt {s : State} {r : PeerRecord} : r ∈ s.pt.toList ↔ ∃ n, validStation n = true ∧ peer s n = r := by
  rw [pt_toList, List.mem_map]
  constructor
  · rintro ⟨i, hi, rfl⟩
    refine ⟨_, ?_, rfl⟩
    rw [List.mem_range] at hi
    rw [validStation, decide_eq_true_iff, BitVec.toNat_ofNat]
    omega
  · rintro ⟨n, hn, rfl⟩
    rw [validStation, decide_eq_true_iff] at hn
    refine ⟨n.toNat - 1, List.mem_range.mpr (by omega), ?_⟩
    rw [Nat.sub_add_cancel hn.1, BitVec.ofNat_toNat, BitVec.setWidth_eq]

theorem mem_capsOf {r : PeerRecord} {k : Nat} :
    k ∈ capsOf r ↔ isHeard r = true ∧ (r.winchA.bind (·.cap) = some k ∨ r.winchB.bind (·.cap) = some k) := by
  rw [capsOf, isHeard_eq]
  split
  next h => simp [h]
  next h => simp [h]

theorem mem_capSet {s : State} {k : Nat} :
    k ∈ capSet s ↔
      s.cu.a.ownCap = some k ∨ s.cu.b.ownCap = some k
        ∨ ∃ n : Station, isHeard (peer s n) = true
            ∧ ((peer s n).winchA.bind (·.cap) = some k ∨ (peer s n).winchB.bind (·.cap) = some k) := by
  have hpeers : k ∈ s.pt.toList.flatMap capsOf ↔ ∃ n : Station, isHeard (peer s n) = true
      ∧ ((peer s n).winchA.bind (·.cap) = some k ∨ (peer s n).winchB.bind (·.cap) = some k) := by
    simp only [List.mem_flatMap, mem_pt, mem_capsOf]
    constructor
    · rintro ⟨-, ⟨n, -, rfl⟩, h⟩
      exact ⟨n, h⟩
    · rintro ⟨n, hheard, h⟩
      refine ⟨_, ⟨n, validStation_of_peer (s := s) fun habs => ?_, rfl⟩, hheard, h⟩
      simp [isHeard, habs] at hheard
  simp only [capSet, List.mem_append, hpeers, Option.mem_toList]
  rw [or_assoc, or_comm, or_assoc]

/-- Settles O20: the sums and the cap set are over the records of the 30 stations. -/
theorem convoyView : Obligations.ConvoyView := by
  intro s
  refine ⟨fun r hlive hstale => ?_, fun r c e hst hc hfit he => ?_, fun r c x hst hc hfit hx => ?_, ?_, ?_,
    fun k => mem_capSet, fun k => List.min?_eq_some_iff⟩
  · have hcounted : counted r = false := by simp [counted, hlive, hstale]
    simp [powerOf, gainOf, hcounted]
  · have hcounted : counted r = true := by simpa [counted] using hst
    simp [powerOf, hcounted, recordFitted, hc, hfit, he]
  · have hcounted : counted r = true := by simpa [counted] using hst
    simp [gainOf, hcounted, recordFitted, hc, hfit, hx]
  · rw [sumPower, pt_toList, List.map_map]
    rfl
  · rw [sumGain, pt_toList, List.map_map]
    rfl

theorem couplingBlind_of_lost {s : State} {n : Station} (hlost : (peer s n).state = .lost)
    (hblind : blindWinch (peer s n).winchA = true ∨ blindWinch (peer s n).winchB = true) : couplingBlind s = true := by
  have hn : validStation n = true := validStation_of_peer (s := s) (by simp [hlost])
  have hpt : ptBlind s = true :=
    List.any_eq_true.mpr ⟨_, mem_pt.mpr ⟨n, hn, rfl⟩, by simpa [hlost] using hblind⟩
  simp [couplingBlind, hpt]

/-- A winch watched when its station was last heard stays watched in a record that drops its cap. -/
theorem blindWinch_uncapped {x : Option WinchPart} {w : WinchPart} (hx : x = some w) (hreleased : w.state ≠ .released)
    (hstandby : w.state ≠ .standby) (hunfitted : w.state ≠ .unfitted) :
    blindWinch (x.map fun w => { w with cap := none }) = true := by
  simp [hx, blindWinch, hreleased, hstandby, hunfitted]

/-- Settles O19: each deadline replaces one record; a lost one counts for nothing and may leave a winch unwatched. -/
theorem peerDeadlines : Obligations.PeerDeadlines := by
  intro s n d hp
  have hvalid (h : (peer s n).state ≠ .absent) : validStation n = true := validStation_of_peer h
  refine ⟨fun hst hd => ?_, fun hst hd => ?_⟩
  · have hn := hvalid (by rintro h; simp [h] at hst)
    refine ⟨putPeer n { peer s n with state := .stale } (reach d s), ?_, by simp [reach], peer_putPeer_same hn _ _,
      fun m hm => peer_putPeer_other hm _ _, fun p hp => by cases p <;> simp_all [StatePart.same, reach]⟩
    change execStaleDeadline n s = _
    rw [execStaleDeadline, live_of_powered hp]
    simp [hst, hd, atExpiry]
  · have hn := hvalid (by simp [hst])
    have hrec : peer (vacateIf n (putPeer n (lostRecord (peer s n)) (reach d s))) n = lostRecord (peer s n) :=
      (peer_congr (s := putPeer n (lostRecord (peer s n)) (reach d s)) (by simp) n).trans (peer_putPeer_same hn _ _)
    refine ⟨vacateIf n (putPeer n (lostRecord (peer s n)) (reach d s)), ?_, by simp [reach], hrec, fun m hm => ?_, ?_, ?_, ?_,
      fun w hw hreleased hstandby hunfitted => ?_, ?_, fun p hp => by cases p <;> simp_all [StatePart.same, reach]⟩
    · change execLossDeadline n s = _
      rw [execLossDeadline, live_of_powered hp]
      simp [hst, hd, atExpiry]
    · exact (peer_congr (s := putPeer n (lostRecord (peer s n)) (reach d s)) (by simp) m).trans (peer_putPeer_other hm _ _)
    · rw [hrec]; rfl
    · rw [hrec]; rfl
    · rw [hrec]; rfl
    · refine couplingBlind_of_lost (n := n) (by rw [hrec]; rfl) ?_
      rw [hrec]
      exact hw.imp (blindWinch_uncapped · hreleased hstandby hunfitted) (blindWinch_uncapped · hreleased hstandby hunfitted)
    · simp [vacateIf_hcu, reach]

end Sys2Proof.Machine
end

section
/-! PROOFS. The helm: claims, the COMMAND frames and DEMAND, HCU's scan completion and its timers (R21 to R39). -/

namespace Sys2Proof.Machine

open Sys2Proof

/-! ### Claims on the holder record (R22, R23, R31, R33) -/

theorem succeeds_self (e : Seq16) : succeeds e e = false := by simp [succeeds]

section
variable {h : Hcu} {e : Seq16} {x : Station}

theorem not_claimAdopted_of_confirms (hc : claimConfirms h e x) : ¬ claimAdopted h e x := by
  obtain ⟨hholder, rfl⟩ := hc
  rintro (hnone | ⟨y, hy, hs | ⟨-, hlt⟩⟩)
  · rw [hnone] at hholder
    cases hholder
  · rw [succeeds_self] at hs
    cases hs
  · rw [hholder, Option.some.injEq] at hy
    subst hy
    exact absurd hlt (lt_irrefl _)

theorem judgeClaim_of_confirms (hc : claimConfirms h e x) : judgeClaim h e x = .confirmed := by
  obtain ⟨hholder, he⟩ := hc
  simp only [judgeClaim, hholder]
  exact if_pos ⟨he, trivial⟩

theorem judgeClaim_of_adopted (ha : claimAdopted h e x) : judgeClaim h e x = .adopted := by
  obtain hnone | ⟨y, hy, hprec⟩ := ha
  · simp only [judgeClaim, hnone]
  · have hnot : ¬ (e = h.epoch ∧ x = y) := by
      rintro ⟨rfl, rfl⟩
      exact not_claimAdopted_of_confirms ⟨hy, rfl⟩ (.inr ⟨x, hy, hprec⟩)
    simp only [judgeClaim, hy, if_neg hnot]
    exact if_pos (by simpa [hasPrecedence] using hprec)

theorem judgeClaim_of_lower (ha : ¬ claimAdopted h e x) (hc : ¬ claimConfirms h e x) : judgeClaim h e x = .lower := by
  unfold judgeClaim
  split
  next hnone => exact absurd (.inl hnone) ha
  next y hy =>
    have hnot : ¬ (e = h.epoch ∧ x = y) := fun ⟨he, hxy⟩ => hc ⟨hxy ▸ hy, he⟩
    rw [if_neg hnot, if_neg fun hprec => ha (.inr ⟨y, hy, by simpa [hasPrecedence] using hprec⟩)]

end

section
variable {k : ClaimKind} {e : Seq16} {x : Station} {s : State}

theorem applyClaim_of_adopted (ha : claimAdopted s.hcu e x) :
    applyClaim k e x s =
      onHcu (fun h =>
        { h with
          holder := some x, epoch := e, vacant := false
          demand := { h.demand with valid := h.demand.valid && k == .demand } }) s := by
  simp only [applyClaim, judgeClaim_of_adopted ha]

theorem applyClaim_of_confirms (hc : claimConfirms s.hcu e x) :
    applyClaim k e x s = onHcu (fun h => { h with vacant := false }) s := by
  simp only [applyClaim, judgeClaim_of_confirms hc]

/-- A lower claim is counted, and the helm takes no note of it. -/
theorem claim_of_lower (ha : ¬ claimAdopted s.hcu e x) (hc : ¬ claimConfirms s.hcu e x) :
    claim k e x s = count .staleCommand s := by
  have hlow := judgeClaim_of_lower ha hc
  have hcount : applyClaim k e x s = count .staleCommand s := by simp only [applyClaim, hlow]
  simp only [claim, hcount, hlow]
  split
  · unfold helmAfterClaim
    split <;> simp
  · rfl

/-- A confirmation by another station clears the vacancy alone. -/
theorem claim_of_confirms (hx : x ≠ s.sc.number) (hc : claimConfirms s.hcu e x) :
    claim k e x s = onHcu (fun h => { h with vacant := false }) s := by
  simp only [claim, applyClaim_of_confirms hc, judgeClaim_of_confirms hc]
  split
  · unfold helmAfterClaim
    split <;> simp [onHcu, hx]
  · rfl

/-- What the helm does with another station's claim that is adopted: a request ends, command is left. -/
theorem claim_of_adopted (hx : x ≠ s.sc.number) (ha : claimAdopted s.hcu e x) :
    (s.sc.fitted.helm = false ∨ s.hcu.helm = .standby → claim k e x s = applyClaim k e x s)
      ∧ (s.sc.fitted.helm = true → s.hcu.helm = .requesting →
          claim k e x s = onHcu (fun h => { h with requestTimer := none, helm := .standby }) (applyClaim k e x s))
      ∧ (s.sc.fitted.helm = true → s.hcu.helm = .inCommand →
          claim k e x s = leaveCommand (applyClaim k e x s)) := by
  have hafter (hfit : s.sc.fitted.helm = true) :
      claim k e x s = helmAfterClaim k x .adopted (applyClaim k e x s) := by
    simp only [claim, judgeClaim_of_adopted ha, if_pos hfit]
  have hhelm := (applyClaim_helm k e x s).1
  refine ⟨fun h => ?_, fun hfit hst => ?_, fun hfit hst => ?_⟩
  · by_cases hfit : s.sc.fitted.helm = true
    · have hst : s.hcu.helm = .standby := h.resolve_left (by simp [hfit])
      rw [hafter hfit, helmAfterClaim, hhelm, hst]
      simp [hx]
    · simp only [claim, if_neg hfit]
  · rw [hafter hfit, helmAfterClaim, hhelm, hst]
    simp [hx]
  · rw [hafter hfit, helmAfterClaim, hhelm, hst]
    simp [hx]

end

theorem enterCommand_hcu (s : State) :
    (enterCommand s).hcu = { enteringHcu s.now s.hcu with requestTimer := s.hcu.requestTimer } := rfl

theorem enterCommand_tbi (s : State) :
    (enterCommand s).tbi = queuedTbi s .demand clsDemand (ownDemandBytes s.hcu s.hcu.epoch) 150 := by
  simp only [enterCommand, setLamp, queueDemand, queueFrame_tbi]
  simp [queuedTbi, onHcu, demandPayload, ownDemandBytes, ownVals, modeNow, feedOwn, takeDemand, stampDemand]

/-- The claim of a frame, on another station, has the effect of R22, R23, R31 and R33. -/
theorem claimEffect_claim {k : ClaimKind} {e : Seq16} {x : Station} {s : State} (hx : x ≠ s.sc.number) :
    claimEffect s (claim k e x (taken s)) e x (k == .demand) := by
  have hx' : x ≠ (taken s).sc.number := hx
  refine ⟨fun ha => ?_, fun hc => ?_, fun ha hc => ?_⟩
  · obtain ⟨hstay, hrequest, hcommand⟩ := claim_of_adopted (k := k) hx' (show claimAdopted (taken s).hcu e x from ha)
    have happly := applyClaim_of_adopted (k := k) (show claimAdopted (taken s).hcu e x from ha)
    refine ⟨fun h => ?_, fun hfit hst => ?_, fun hfit hst => ?_⟩
    · rw [hstay h, happly]
      exact ⟨rfl, rfl, rfl⟩
    · rw [hrequest hfit hst, happly]
      exact ⟨rfl, rfl, rfl⟩
    · rw [hcommand hfit hst, happly]
      exact ⟨rfl, rfl, rfl⟩
  · rw [claim_of_confirms hx' (show claimConfirms (taken s).hcu e x from hc)]
    exact ⟨rfl, rfl, rfl⟩
  · rw [claim_of_lower (s := taken s) ha hc]
    exact ⟨rfl, rfl, rfl⟩

theorem claim_onlyChanges (k : ClaimKind) (e : Seq16) (x : Station) (s : State) :
    onlyChanges [.tbi, .hcu, .dch] s (claim k e x s) :=
  fun p hp => by cases p <;> simp_all [StatePart.same]

/-! ### The COMMAND frames and DEMAND -/

theorem sender_of_admitted_kind {s : State} {f : Frame} {k : Kind} (hadm : admits s f) (hf : ofKind k f = true)
    (hrow : (kindRow s.sc.station k).senders = .peers) : f.sender ≠ s.sc.number := by
  obtain ⟨-, r, hr, hsender, -⟩ := judge_admitted hadm.2.2
  rw [rowOf_kind hf hr, hrow] at hsender
  exact fun heq => sender_ne_own hadm.2.2 (heq ▸ hsender) heq

theorem ofKind_of_byte0 {f : Frame} {k : Kind} (hf : f.cls = clsCommand) (hk : kindOf f.byte0 = some k) :
    ofKind k f = true := by
  simp [ofKind, hf, commandKind, hk]

/-- Settles O21: SEIZE is a claim of its sender. -/
theorem seizeFrame : Obligations.SeizeFrame := by
  intro s f hadm hf hk
  have hkind : ofKind .seize f = true := ofKind_of_byte0 hf (by rw [hk]; rfl)
  exact ⟨_, exec_admitted (c := .commandSeize) hadm hkind, claimEffect_claim (sender_of_admitted_kind hadm hkind rfl),
    ((taken_onlyChanges s).mono (by decide)).trans (claim_onlyChanges _ _ _ _)⟩

/-- A GRANT to this station that is adopted or confirmed makes it the recorded holder; a confirmation keeps valid. -/
theorem applyClaim_grantSelf {e : Seq16} {s : State}
    (h : claimAdopted s.hcu e s.sc.number ∨ claimConfirms s.hcu e s.sc.number) :
    applyClaim .grant e s.sc.number s =
      onHcu (fun h =>
        { h with
          holder := some s.sc.number, epoch := e, vacant := false
          demand :=
            { h.demand with valid := h.demand.valid && decide (h.holder = some s.sc.number ∧ h.epoch = e) } }) s := by
  obtain ha | hc := h
  · have hnot : ¬ (s.hcu.holder = some s.sc.number ∧ s.hcu.epoch = e) :=
      fun ⟨hholder, he⟩ => not_claimAdopted_of_confirms ⟨hholder, he.symm⟩ ha
    rw [applyClaim_of_adopted ha]
    simp [onHcu, hnot]
  · rw [applyClaim_of_confirms hc]
    obtain ⟨hholder, he⟩ := hc
    simp [onHcu, hholder, he]

/-- What the helm does with a GRANT to this station that is adopted or confirmed (R31, R34, R35). -/
theorem claim_grantSelf {e : Seq16} {s : State}
    (h : claimAdopted s.hcu e s.sc.number ∨ claimConfirms s.hcu e s.sc.number) :
    (s.sc.fitted.helm = false → claim .grant e s.sc.number s = applyClaim .grant e s.sc.number s)
      ∧ (s.sc.fitted.helm = true → s.hcu.helm = .requesting →
          claim .grant e s.sc.number s =
            enterCommand (onHcu (fun h => { h with requestTimer := none }) (applyClaim .grant e s.sc.number s)))
      ∧ (s.sc.fitted.helm = true → s.hcu.helm = .standby →
          claim .grant e s.sc.number s =
            onHcu (fun h => { h with vacant := true }) (applyClaim .grant e s.sc.number s))
      ∧ (s.sc.fitted.helm = true → s.hcu.helm = .inCommand →
          (claimAdopted s.hcu e s.sc.number →
              claim .grant e s.sc.number s = applyClaim .grant e s.sc.number s)
            ∧ (claimConfirms s.hcu e s.sc.number →
                claim .grant e s.sc.number s = count .staleCommand (applyClaim .grant e s.sc.number s))) := by
  have hafter (hfit : s.sc.fitted.helm = true) : claim .grant e s.sc.number s =
      helmAfterClaim .grant s.sc.number (judgeClaim s.hcu e s.sc.number) (applyClaim .grant e s.sc.number s) := by
    simp only [claim, if_pos hfit]
  have hlow : (judgeClaim s.hcu e s.sc.number != .lower) = true := by
    obtain ha | hc := h
    · rw [judgeClaim_of_adopted ha]; rfl
    · rw [judgeClaim_of_confirms hc]; rfl
  have hhelm := (applyClaim_helm .grant e s.sc.number s).1
  refine ⟨fun hfit => ?_, fun hfit hst => ?_, fun hfit hst => ?_, fun hfit hst => ⟨fun ha => ?_, fun hc => ?_⟩⟩
  · simp only [claim, hfit]
    rfl
  · rw [hafter hfit, helmAfterClaim, hhelm, hst]
    simp [hlow]
  · rw [hafter hfit, helmAfterClaim, hhelm, hst]
    simp [hlow]
  · rw [hafter hfit, helmAfterClaim, hhelm, hst, judgeClaim_of_adopted ha]
    simp
  · rw [hafter hfit, helmAfterClaim, hhelm, hst, judgeClaim_of_confirms hc]
    simp

/-- Settles O22: by the station that the GRANT names, and for this one by the helm state. -/
theorem grantFrame : Obligations.GrantFrame := by
  unfold Obligations.GrantFrame
  intro s f hadm hf hk
  have hexec := exec_admitted (c := .commandGrant) hadm (ofKind_of_byte0 (k := .grant) hf (by rw [hk]; rfl))
  simp only [ownerOf, ownGrant] at hexec
  refine ⟨_, hexec, ?_, fun h1 h30 hother => ?_, fun hnot => ?_, fun h1 h30 hown hclaim hfit => ?_,
    fun h1 h30 hown hclaim hfit => ?_⟩
  · refine ((taken_onlyChanges s).mono (by decide)).trans ?_
    split
    · exact claim_onlyChanges _ _ _ _
    · exact fun p hp => by cases p <;> simp_all [StatePart.same]
  · rw [if_pos ⟨h1, h30⟩]
    refine claimEffect_claim fun heq => hother ?_
    rw [← heq, BitVec.toNat_ofNat]
    exact (Nat.mod_eq_of_lt (by omega)).symm
  · split
    next hin =>
      obtain hout | ⟨hown, ha, hc⟩ := hnot
      · omega
      · have hname : BitVec.ofNat 5 (getU 1 1 f.payload) = s.sc.number := by
          rw [hown, BitVec.ofNat_toNat, BitVec.setWidth_eq]
        rw [hname]
        exact claim_of_lower (s := taken s) ha hc
    · rfl
  all_goals
    have hname : BitVec.ofNat 5 (getU 1 1 f.payload) = (taken s).sc.number := by
      rw [hown, BitVec.ofNat_toNat, BitVec.setWidth_eq]
      rfl
    have hclaim' : claimAdopted (taken s).hcu (getEpoch 2 f.payload) (taken s).sc.number
      ∨ claimConfirms (taken s).hcu (getEpoch 2 f.payload) (taken s).sc.number := hclaim
    obtain ⟨hunfit, hrequest, hstandby, hcommand⟩ := claim_grantSelf hclaim'
    have happly := applyClaim_grantSelf hclaim'
    rw [if_pos ⟨h1, h30⟩, hname]
  · refine ⟨fun hst => ?_, fun hst => ?_, fun hst => ⟨?_, ?_, fun ha => ?_, fun hc => ?_⟩⟩
    · rw [hrequest hfit hst, happly, enterCommand_hcu, enterCommand_tbi]
      exact ⟨rfl, rfl, rfl⟩
    · rw [hstandby hfit hst, happly]
      exact ⟨rfl, rfl, rfl⟩
    · obtain ha | hc := hclaim'
      · rw [(hcommand hfit hst).1 ha, happly]
        rfl
      · rw [(hcommand hfit hst).2 hc, happly]
        rfl
    · obtain ha | hc := hclaim'
      · rw [(hcommand hfit hst).1 ha, happly]
        rfl
      · rw [(hcommand hfit hst).2 hc, happly]
        rfl
    · rw [(hcommand hfit hst).1 ha, happly]
      rfl
    · rw [(hcommand hfit hst).2 hc, happly]
      rfl
  · rw [hunfit hfit, happly]
    exact ⟨rfl, rfl, rfl⟩

theorem helmAfterClaim_holder {k : ClaimKind} {x : Station} {r : ClaimResult} {s : State} :
    (helmAfterClaim k x r s).hcu.holder = s.hcu.holder ∧ (helmAfterClaim k x r s).hcu.epoch = s.hcu.epoch := by
  unfold helmAfterClaim
  simp only
  repeat' split
  all_goals exact ⟨rfl, rfl⟩

/-- A claim that is adopted or confirmed leaves its pair recorded. -/
theorem claim_recorded {k : ClaimKind} {e : Seq16} {x : Station} {s : State}
    (h : claimAdopted s.hcu e x ∨ claimConfirms s.hcu e x) :
    (claim k e x s).hcu.holder = some x ∧ (claim k e x s).hcu.epoch = e := by
  have happly : (applyClaim k e x s).hcu.holder = some x ∧ (applyClaim k e x s).hcu.epoch = e := by
    obtain ha | hc := h
    · rw [applyClaim_of_adopted ha]
      exact ⟨rfl, rfl⟩
    · rw [applyClaim_of_confirms hc]
      exact ⟨hc.1, hc.2.symm⟩
  simp only [claim]
  split
  · rw [helmAfterClaim_holder.1, helmAfterClaim_holder.2]
    exact happly
  · exact happly

/-- Settles O23: DEMAND is a claim, and then accepted where its pair is recorded. -/
theorem demandFrame : Obligations.DemandFrame := by
  unfold Obligations.DemandFrame
  intro s f hadm hf
  have hvalid : validStation f.sender = true := validStation_of_admitted hadm hf (by decide) rfl
  have hx : f.sender ≠ s.sc.number := fun heq => sender_ne_own hadm.2.2 (heq ▸ hvalid) heq
  have hexec := exec_admitted (c := .demand) hadm (beq_iff_eq.mpr hf)
  simp only [ownerOf, ownDemand] at hexec
  have hchanges := claim_onlyChanges .demand (getEpoch 0 f.payload) f.sender (taken s)
  have heffect := claimEffect_claim (k := .demand) (e := getEpoch 0 f.payload) hx
  refine ⟨_, _, hexec, heffect, ?_, ?_, fun hclaim => ?_, fun ha hc => ?_,
    ((taken_onlyChanges s).mono (by decide)).trans (hchanges.trans ?_)⟩
  · split <;> rfl
  · split <;> rfl
  · rw [if_pos (claim_recorded (s := taken s) (e := getEpoch 0 f.payload) hclaim)]
    exact ⟨rfl, rfl⟩
  · have hsame := (heffect.2.2 ha hc).1
    rw [if_neg fun ⟨hholder, he⟩ => hc ⟨hsame ▸ hholder, (hsame ▸ he).symm⟩]
    exact hsame
  · split
    · exact fun p hp => by cases p <;> simp_all [StatePart.same, onHcu]
    · exact .refl _ _

/-- The answer to a REQUEST in command that is granted: the record changes holder and command is left (R32, R33). -/
theorem grantTo_eq (q : Station) (s : State) :
    grantTo q s =
      { s with
        tbi :=
          withdrawDemand
            (queuedTbi s .command clsCommand (putU 1 2 ++ putU 1 q.toNat ++ putU 2 (s.hcu.epoch + 1).toNat) 500)
        dch := { s.dch with lampReq := false }
        hcu :=
          leavingHcu s.now
            { s.hcu with
              holder := some q, epoch := s.hcu.epoch + 1, vacant := false
              demand := { s.hcu.demand with valid := false } } } := rfl

/-- Settles O24: the three answers to a REQUEST in command, and the end of a request by a DECLINE. -/
theorem requestAndDecline : Obligations.RequestAndDecline := by
  unfold Obligations.RequestAndDecline
  refine ⟨fun s f hadm hf hk => ?_, fun s f hadm hf hk => ?_⟩
  · have hexec := exec_admitted (c := .commandRequest) hadm (ofKind_of_byte0 (k := .request) hf (by rw [hk]; rfl))
    have hown : ownerOf .commandRequest f (taken s) =
        if s.sc.fitted.helm ∧ s.hcu.helm = .inCommand then
          if getEpoch 1 f.payload ≠ s.hcu.epoch then queueDecline f.sender .staleEpoch (taken s)
          else if withinBand s (getDemand 3 f.payload) (getDemand 5 f.payload) then grantTo f.sender (taken s)
          else queueDecline f.sender .mismatch (taken s)
        else taken s := rfl
    rw [hown] at hexec
    refine ⟨_, hexec, fun hnot => if_neg hnot, fun hin he => ?_, fun hin he hfar => ?_, fun hin he hnear => ?_⟩
    · rw [if_pos hin, if_pos (show getEpoch 1 f.payload ≠ s.hcu.epoch from he)]
      rfl
    · rw [if_pos hin, if_neg (not_not.mpr (show getEpoch 1 f.payload = s.hcu.epoch from he)),
        if_neg (show ¬ withinBand s (getDemand 3 f.payload) (getDemand 5 f.payload) = true from
          fun hband => hfar (decide_eq_true_iff.mp hband))]
      rfl
    · rw [if_pos hin, if_neg (not_not.mpr (show getEpoch 1 f.payload = s.hcu.epoch from he)),
        if_pos (show withinBand s (getDemand 3 f.payload) (getDemand 5 f.payload) = true from decide_eq_true hnear),
        grantTo_eq]
      rfl
  · have hexec := exec_admitted (c := .commandDecline) hadm (ofKind_of_byte0 (k := .decline) hf (by rw [hk]; rfl))
    have hown : ownerOf .commandDecline f (taken s) =
        if s.sc.fitted.helm ∧ getU 1 1 f.payload = s.sc.number.toNat ∧ s.hcu.helm = .requesting then
          onHcu (fun h =>
            { h with
              requestTimer := none, helm := .standby, lastDecline := (declineOf (getU 1 2 f.payload)).getD none })
            (taken s)
        else taken s := rfl
    rw [hown] at hexec
    refine ⟨fun hfit hst hto => ?_, fun hnot => ?_⟩
    · have hreason : (declineOf (getU 1 2 f.payload)).getD none =
          if getU 1 2 f.payload = 1 then some .staleEpoch
          else if getU 1 2 f.payload = 2 then some .mismatch else none := by
        unfold declineOf
        split <;> simp_all
      rw [hexec, if_pos ⟨hfit, hto, hst⟩, hreason]
      rfl
    · rw [hexec, if_neg]
      rintro ⟨hfit, hto, hst⟩
      obtain h | h | h := hnot
      · rw [hfit] at h
        cases h
      · exact h hst
      · exact h hto

/-- The work of a powered part at an expiry of a timer of its state. -/
theorem live_expiry {d : Nat} {s : State} (timer : State → Option Nat) {f : Nat → State → State}
    (hp : s.powered = true) (ht : timer s = some d) :
    live (fun s => atExpiry (timer s) f s) s = .next (f d (reach d s)) := by
  simp [live, hp, ht, atExpiry]

/-- Settles O27: each timer's expiry, and the record as used. -/
theorem helmTimers : Obligations.HelmTimers := by
  refine ⟨fun s => ⟨fun hv => ?_, fun hv => ?_⟩, fun s d hp => ⟨fun ht hst => ?_, fun ht => ?_, fun ht => ?_⟩⟩
  · simp only [used, hv, if_true]
  · simp [used, hv]
  · change execRequestTimerExpiry s = _
    rw [execRequestTimerExpiry, live_expiry (·.hcu.requestTimer) hp ht]
    simp [reach, onHcu, hst]
  · change execDemandTimerExpiry s = _
    rw [execDemandTimerExpiry, live_expiry (·.hcu.demandTimer) hp ht]
    rfl
  · refine ⟨_, ?_, rfl, rfl, rfl⟩
    change execHelmLossTimerExpiry s = _
    rw [execHelmLossTimerExpiry, live_expiry (·.hcu.helmLossTimer) hp ht]
    rfl

/-! ### HCU at a scan completion (R25 to R30, R35, R36) -/

theorem helmInputs_eq_helmSampled (s : State) (m : SampleSet) : helmInputs (cfg5 s) m s.hcu = helmSampled s m := by
  have hreads (r : Reading) : leverReads r = true ↔ r.status = .good ∨ r.status = .suspect := by simp [leverReads]
  simp only [helmInputs, helmSampled, leverValues, Bool.and_eq_true, hreads, Bool.decide_or, beq_eq_decide]
  split <;> rfl

/-- The state in which the edges of a scan completion are acted on: the delivery taken, the inputs and levers stored. -/
def inputsTaken (s : State) (m : SampleSet) : State :=
  { s with due := { s.due with hcu := false }, hcu := helmSampled s m }

/-- An edge is acted on in RUN with LEVER_FAULT absent (R28 to R30). -/
def edgeActs (s : State) (m : SampleSet) (x : Bool) (d : Debounce) : Prop :=
  (s.sc.station = .run ∧ (helmSampled s m).leverFault = false) ∧ risingEdge x d

theorem exec_hcuScan {s : State} {m : SampleSet} (hp : s.powered = true) (hm : s.ssq.sample = some m)
    (hd : s.due.hcu = true) :
    exec .hcuScanCompletion s = .next (hcuScan m { s with due := { s.due with hcu := false } }) := by
  change execHcuScanCompletion s = _
  simp [execHcuScanCompletion, live, hp, hm, hd]

/-- The scan completion with the two edges given. -/
theorem hcuScan_of_edges {s : State} {m : SampleSet} {take seize : Bool}
    (htake : edgeActs s m m.pins.take s.hcu.take ↔ take = true)
    (hseize : edgeActs s m m.pins.seize s.hcu.seize ↔ seize = true) :
    hcuScan m { s with due := { s.due with hcu := false } } =
      commandScan (helmEdges take seize (inputsTaken s m)) := by
  have hact (x : Bool) (d : Debounce) (b : Bool) (hb : edgeActs s m x d ↔ b = true) :
      (s.sc.station == .run && !(helmSampled s m).leverFault && rising d (debounceStep x d)) = b := by
    rw [Bool.eq_iff_iff, ← hb]
    simp [edgeActs, rising, risingEdge, debounced, debounceStep]
  rw [← hact _ _ _ htake, ← hact _ _ _ hseize]
  simp only [hcuScan, inputsTaken, ← helmInputs_eq_helmSampled]
  rfl

theorem commandScan_out {s : State} (h : s.hcu.helm ≠ .inCommand) : commandScan s = s := if_neg h

theorem seizeEdge_command {s : State} (h : s.hcu.helm = .inCommand) : seizeEdge s = s := if_pos h

theorem takeEdge_busy {s : State} (h : s.hcu.helm ≠ .standby) : takeEdge s = s := if_pos h

theorem takeEdge_asks {s : State} (h : s.hcu.helm = .standby) (hholder : s.hcu.holder ≠ none)
    (hvacant : s.hcu.vacant = false) :
    takeEdge s =
      queueCommand (putU 1 1 ++ putU 2 s.hcu.epoch.toNat ++ putS 2 s.hcu.dOwn ++ putS 2 s.hcu.rOwn)
        (onHcu (fun h =>
          { h with lastDecline := none, requestTimer := some (s.now + ms 2000), helm := .requesting }) s) := by
  rw [takeEdge, if_neg (not_not.mpr h), if_neg (by simp [hholder, hvacant])]

theorem takeEdge_seizes {s : State} (h : s.hcu.helm = .standby) (hv : s.hcu.holder = none ∨ s.hcu.vacant = true) :
    takeEdge s = seizeEdge s := by
  rw [takeEdge, if_neg (not_not.mpr h), if_pos hv]

/-- HCU's record after a SEIZE edge out of command (R30, R35). -/
def seizedHcu (s : State) : Hcu :=
  enteringHcu s.now
    { s.hcu with holder := some s.sc.number, epoch := s.hcu.epoch + 1, vacant := false, lastDecline := none }

/-- A SEIZE edge out of command: the next epoch, its frame, and the entry to IN_COMMAND with its DEMAND (R30, R35). -/
theorem seizeEdge_takes {s : State} (h : s.hcu.helm ≠ .inCommand) :
    (seizeEdge s).hcu = seizedHcu s
      ∧ (seizeEdge s).tbi =
          queueTbi .demand ⟨clsDemand, s.sc.number, ownDemandBytes s.hcu (s.hcu.epoch + 1)⟩ (s.now + 150000)
            (queuedTbi s .command clsCommand (putU 1 4 ++ putU 2 (s.hcu.epoch + 1).toNat) 500)
      ∧ (seizeEdge s).dch = { s.dch with lampReq := true } ∧ onlyChanges [.tbi, .hcu, .dch] s (seizeEdge s) := by
  refine ⟨?_, ?_, ?_, fun p hp => by cases p <;> simp_all [StatePart.same]⟩ <;> rw [seizeEdge, if_neg h]
  · rfl
  · rw [enterCommand_tbi]
    rfl
  · rfl

/-- At the scan completion that enters command the record is fed already, and no second DEMAND is asked for. -/
theorem commandScan_entered {s u : State} (hnow : s.now = u.now) (hs : s.hcu = seizedHcu u) : commandScan s = s := by
  have hin : s.hcu.helm = .inCommand := by rw [hs]; rfl
  have hextra : extraDemand s.hcu = false := by
    rw [hs]
    simp [extraDemand, seizedHcu, enteringHcu, modeNow]
  have hfed : onHcu (feedOwn s.now) s = s := by
    have : feedOwn s.now s.hcu = s.hcu := by rw [hs, hnow]; rfl
    simp only [onHcu, this]
  rw [commandScan, if_pos hin]
  simp [hextra, hfed]

/-- A TAKE edge first, whatever it does, leaves the SEIZE edge to enter command. -/
theorem seizeEdge_takeEdge {s : State} (hout : s.hcu.helm ≠ .inCommand) :
    (seizeEdge (takeEdge s)).hcu = seizedHcu s ∧ (seizeEdge (takeEdge s)).dch = { s.dch with lampReq := true } := by
  obtain ⟨hhcu, -, hdch, -⟩ := seizeEdge_takes hout
  by_cases hst : s.hcu.helm = .standby
  · by_cases hv : s.hcu.holder = none ∨ s.hcu.vacant = true
    · rw [takeEdge_seizes hst hv, seizeEdge_command (by rw [hhcu]; rfl)]
      exact ⟨hhcu, hdch⟩
    · have hvacant : s.hcu.vacant = false := by simpa using fun h => hv (.inr h)
      obtain ⟨hhcu, -, hdch, -⟩ := seizeEdge_takes (s := takeEdge s)
        (by rw [takeEdge_asks hst (fun h => hv (.inl h)) hvacant]; nofun)
      rw [takeEdge_asks hst (fun h => hv (.inl h)) hvacant] at hhcu hdch ⊢
      exact ⟨hhcu, hdch⟩
  · rw [takeEdge_busy hst]
    exact ⟨hhcu, hdch⟩

/-- The two edges of one scan completion come to a SEIZE, whichever is first (log 11). -/
theorem helmEdges_both {s : State} (hout : s.hcu.helm ≠ .inCommand) :
    (helmEdges true true s).hcu = seizedHcu s
      ∧ (helmEdges true true s).dch = { s.dch with lampReq := true } := by
  simp only [helmEdges]
  split
  · exact seizeEdge_takeEdge (s := { s with freeSeq := s.freeSeq + 1 }) hout
  · obtain ⟨hhcu, -, hdch, -⟩ := seizeEdge_takes (s := { s with freeSeq := s.freeSeq + 1 }) hout
    rw [takeEdge_busy (by rw [hhcu]; nofun)]
    exact ⟨hhcu, hdch⟩

/-- In command no edge acts (R29, R30). -/
theorem helmEdges_command {s : State} (hin : s.hcu.helm = .inCommand) (take seize : Bool) :
    (helmEdges take seize s).hcu = s.hcu ∧ (helmEdges take seize s).tbi = s.tbi
      ∧ onlyChanges [.freeSeq] s (helmEdges take seize s) := by
  have htake {u : State} (hu : u.hcu.helm = .inCommand) : takeEdge u = u := takeEdge_busy (by rw [hu]; nofun)
  cases take <;> cases seize
  · exact ⟨rfl, rfl, .refl _ _⟩
  · rw [show helmEdges false true s = seizeEdge s from rfl, seizeEdge_command hin]
    exact ⟨rfl, rfl, .refl _ _⟩
  · rw [show helmEdges true false s = takeEdge s from rfl, htake hin]
    exact ⟨rfl, rfl, .refl _ _⟩
  · simp only [helmEdges]
    rw [htake (u := { s with freeSeq := s.freeSeq + 1 }) hin, seizeEdge_command (s := { s with freeSeq := s.freeSeq + 1 }) hin,
      htake (u := { s with freeSeq := s.freeSeq + 1 }) hin, ite_self]
    exact ⟨rfl, rfl, fun p hp => by cases p <;> simp_all [StatePart.same]⟩

/-- The feeding of the own record in command (R35). -/
theorem commandScan_feeds {s : State} (hin : s.hcu.helm = .inCommand) :
    (extraDemand s.hcu = true → commandScan s = queueDemand (onHcu (feedOwn s.now) s))
      ∧ (extraDemand s.hcu = false → commandScan s = onHcu (feedOwn s.now) s) := by
  rw [commandScan, if_pos hin]
  exact ⟨fun h => if_pos h, fun h => if_neg (by simp [h])⟩

theorem extraDemand_iff {h : Hcu} {q : DemandVals} (hq : h.lastQueued = some q) :
    extraDemand h = true ↔
      20 ≤ (h.dOwn - q.d).natAbs ∨ 20 ≤ (h.rOwn - q.r).natAbs ∨ modeNow h ≠ q.mode := by
  simp [extraDemand, hq, or_assoc]

theorem queueDemand_fed (s : State) :
    (queueDemand (onHcu (feedOwn s.now) s)).hcu =
        { s.hcu with
          demand := ⟨s.hcu.dOwn, s.hcu.rOwn, modeNow s.hcu, some s.now, true⟩
          helmLossTimer := some (s.now + 1000000), helmLost := false
          lastQueued := some ⟨s.hcu.dOwn, s.hcu.rOwn, modeNow s.hcu⟩ }
      ∧ (queueDemand (onHcu (feedOwn s.now) s)).tbi =
          queuedTbi s .demand clsDemand (ownDemandBytes s.hcu s.hcu.epoch) 150 := by
  refine ⟨rfl, ?_⟩
  simp only [queueDemand, queueFrame_tbi]
  simp [queuedTbi, onHcu, demandPayload, ownDemandBytes, ownVals, modeNow, feedOwn, takeDemand, stampDemand]

/-- Settles O26: the inputs are taken, then the edges act as they may, then command feeds its record. -/
theorem helmScan : Obligations.HelmScan := by
  refine ⟨fun h => ⟨fun hm => by rw [modeNow, hm], ?_⟩, ?_⟩
  · rintro (hm | hm) <;> rw [modeNow, hm]
  intro s m hp hm hd
  refine ⟨_, exec_hcuScan hp hm hd, by simp, ?_⟩
  have hdue : onlyChanges [.due, .hcu] s (inputsTaken s m) := fun p hp => by
    cases p <;> simp_all [StatePart.same, inputsTaken]
  have hhelm : (inputsTaken s m).hcu.helm = s.hcu.helm := rfl
  have hseized (hout : s.hcu.helm ≠ .inCommand) := seizeEdge_takes (s := inputsTaken s m) (hhelm ▸ hout)
  have hseizedScan (hout : s.hcu.helm ≠ .inCommand) :
      commandScan (seizeEdge (inputsTaken s m)) = seizeEdge (inputsTaken s m) :=
    commandScan_entered (by simp) (hseized hout).1
  refine ⟨fun hout htake hseize => ?_, fun hst htake hseize hholder hvacant => ?_, fun hst htake hseize => ?_, ?_,
    fun hout htake hseize => ?_, fun q hin hq => ?_⟩
  · rw [hcuScan_of_edges (iff_of_false htake Bool.false_ne_true) (iff_of_false hseize Bool.false_ne_true)]
    have hscan : commandScan (helmEdges false false (inputsTaken s m)) = inputsTaken s m := commandScan_out hout
    rw [hscan]
    exact ⟨rfl, hdue⟩
  · rw [hcuScan_of_edges (iff_of_true htake rfl) (iff_of_false hseize Bool.false_ne_true)]
    have hedge : helmEdges true false (inputsTaken s m) = takeEdge (inputsTaken s m) := rfl
    rw [hedge, takeEdge_asks (s := inputsTaken s m) hst hholder hvacant,
      commandScan_out (show HelmState.requesting ≠ .inCommand by decide)]
    exact ⟨rfl, rfl, fun p hp => by cases p <;> simp_all [StatePart.same, inputsTaken, onHcu]⟩
  · rw [hcuScan_of_edges (iff_of_true htake rfl) (iff_of_false hseize Bool.false_ne_true)]
    have hedge : helmEdges true false (inputsTaken s m) = takeEdge (inputsTaken s m) := rfl
    rw [hedge, takeEdge_busy (by rw [hhelm, hst]; nofun), commandScan_out (by rw [hhelm, hst]; nofun)]
    exact ⟨rfl, hdue⟩
  · intro hcase
    have hscan : s.hcu.helm ≠ .inCommand ∧ hcuScan m { s with due := { s.due with hcu := false } } =
        seizeEdge (inputsTaken s m) := by
      obtain ⟨hst, htake, hseize, hv⟩ | ⟨hout, hseize, htake⟩ := hcase
      · have hout : s.hcu.helm ≠ .inCommand := by rw [hst]; nofun
        rw [hcuScan_of_edges (iff_of_true htake rfl) (iff_of_false hseize Bool.false_ne_true)]
        have hedge : helmEdges true false (inputsTaken s m) = takeEdge (inputsTaken s m) := rfl
        rw [hedge, takeEdge_seizes (s := inputsTaken s m) hst hv]
        exact ⟨hout, hseizedScan hout⟩
      · rw [hcuScan_of_edges (iff_of_false htake Bool.false_ne_true) (iff_of_true hseize rfl)]
        exact ⟨hout, hseizedScan hout⟩
    obtain ⟨hout, hscan⟩ := hscan
    obtain ⟨hhcu, htbi, hdch, hrest⟩ := hseized hout
    rw [hscan]
    exact ⟨hhcu, htbi, hdch, (hdue.mono (by decide)).trans (hrest.mono (by decide))⟩
  · rw [hcuScan_of_edges (iff_of_true htake rfl) (iff_of_true hseize rfl)]
    obtain ⟨hhcu, hdch⟩ := helmEdges_both (s := inputsTaken s m) (hhelm ▸ hout)
    rw [commandScan_entered (by simp) hhcu]
    exact ⟨hhcu, hdch, fun p hp => by cases p <;> simp_all [StatePart.same, inputsTaken]⟩
  · have hedges (b : Prop) : ∃ x : Bool, b ↔ x = true := by
      classical exact ⟨decide b, by simp⟩
    obtain ⟨take, htake⟩ := hedges (edgeActs s m m.pins.take s.hcu.take)
    obtain ⟨seize, hseize⟩ := hedges (edgeActs s m m.pins.seize s.hcu.seize)
    rw [hcuScan_of_edges htake hseize]
    obtain ⟨hhcu, htbi, hrest⟩ := helmEdges_command (s := inputsTaken s m) hin take seize
    have hsame : onlyChanges [.due, .freeSeq, .hcu] s (helmEdges take seize (inputsTaken s m)) :=
      (hdue.mono (by decide)).trans (hrest.mono (by decide))
    obtain ⟨hextra, hplain⟩ := commandScan_feeds (s := helmEdges take seize (inputsTaken s m)) (by rw [hhcu]; exact hin)
    have hiff := extraDemand_iff (h := (helmEdges take seize (inputsTaken s m)).hcu) (q := q) (by rw [hhcu]; exact hq)
    refine ⟨fun hmoved => ?_, fun hd hr hmode => ?_⟩
    · rw [hextra (hiff.mpr (by rw [hhcu]; exact hmoved))]
      obtain ⟨hfed, hqueued⟩ := queueDemand_fed (helmEdges take seize (inputsTaken s m))
      rw [hfed, hqueued, queuedTbi, hhcu, htbi, hsame .now (by decide), hsame .sc (by decide)]
      refine ⟨rfl, rfl, (hsame.mono (by decide)).trans fun p hp => ?_⟩
      cases p <;> simp_all [StatePart.same, onHcu]
    · rw [hplain (by
        rw [← Bool.not_eq_true, hiff, hhcu]
        rintro (h | h | h)
        · exact absurd hd h.not_gt
        · exact absurd hr h.not_gt
        · exact h hmode)]
      refine ⟨?_, hsame.trans fun p hp => ?_⟩
      · change feedOwn (helmEdges take seize (inputsTaken s m)).now (helmEdges take seize (inputsTaken s m)).hcu = _
        rw [hhcu, hsame .now (by decide)]
        rfl
      · cases p <;> simp_all [StatePart.same, onHcu]

end Sys2Proof.Machine
end

section
/-! PROOFS. Thrust: the shares, the ramp, the engine condition, the shift timer, and TSU's scan completion (R42 to R66). -/

namespace Sys2Proof.Machine

open Sys2Proof

/-! ### The share computation and the ramp (R46 to R50) -/

theorem effectiveDemand_eq (c : P1) (i : ShareInputs) :
    effectiveDemand c i =
      match i.cap with
      | some k => min (min (i.d.natAbs * c.nominal / 1000) i.sumA) k
      | none => min (i.d.natAbs * c.nominal / 1000) i.sumA := rfl

theorem effectiveDemand_le_sumA (c : P1) (i : ShareInputs) : effectiveDemand c i ≤ i.sumA := by
  rw [effectiveDemand_eq]
  split
  · exact (min_le_left _ _).trans (min_le_right _ _)
  · exact min_le_right _ _

theorem effectiveDemand_le_cap {c : P1} {i : ShareInputs} {k : Nat} (h : i.cap = some k) : effectiveDemand c i ≤ k := by
  rw [effectiveDemand_eq, h]
  exact min_le_right _ _

theorem baseShare_le (c : P1) (i : ShareInputs) : baseShare c i ≤ i.aOwn :=
  Nat.div_le_of_le_mul (Nat.mul_le_mul_right _ (effectiveDemand_le_sumA c i))

/-- The assist of a checked P1 is at most half the base share (R48, R210). -/
theorem two_mul_turnAssist_le {c : P1} {i : ShareInputs} (hside : c.side.natAbs ≤ 1) (hassist : c.assist ≤ 500)
    (hr : i.r.natAbs ≤ 1000) : 2 * (turnAssist c i).natAbs ≤ baseShare c i := by
  unfold turnAssist
  split
  · have hproduct : (-c.side * baseShare c i * c.assist * i.r).natAbs ≤ baseShare c i * 500000 := by
      calc (-c.side * baseShare c i * c.assist * i.r).natAbs
          = c.side.natAbs * baseShare c i * c.assist * i.r.natAbs := by simp [Int.natAbs_mul]
        _ ≤ 1 * baseShare c i * 500 * 1000 := by gcongr
        _ = baseShare c i * 500000 := by ring
    have hquot : (quot (-c.side * baseShare c i * c.assist * i.r) 1000000).natAbs ≤ baseShare c i * 500000 / 1000000 := by
      rw [quot, Int.natAbs_tdiv]
      exact Nat.div_le_div_right hproduct
    omega
  · simp

theorem shareTarget_eq (c : P1) (i : ShareInputs) :
    shareTarget c i =
      if 0 < i.d then max 0 (min (i.aOwn : Int) (baseShare c i + turnAssist c i))
      else if i.d < 0 then -max 0 (min (i.aOwn : Int) (baseShare c i + turnAssist c i)) else 0 := by
  rw [shareTarget, clampInt]
  split
  next h => rw [Int.sign_eq_one_of_pos h, one_mul]
  next h =>
    split
    next h' => rw [Int.sign_eq_neg_one_of_neg h', neg_one_mul]
    next h' => rw [show i.d = 0 by omega, Int.sign_zero, zero_mul]

theorem rampStep_mirror (r : Ramp) (target sp : Int) : rampStep r (-target) (-sp) = -rampStep r target sp := by
  unfold rampStep
  split_ifs <;> omega

/-- Settles O28: each clause is an equation or a bound of the computation, or a branch of the ramp. -/
theorem shareAndRamp : Obligations.ShareAndRamp := by
  unfold Obligations.ShareAndRamp
  refine ⟨fun c i => ?_, fun r target sp => ?_⟩
  · have hbase : baseShare c i = if i.sumA = 0 then 0 else effectiveDemand c i * i.aOwn / i.sumA := by
      rw [baseShare]
      split
      next h => rw [h, Nat.div_zero]
      next => rfl
    have hassist : turnAssist c i =
        if 0 < i.d then
          Int.tdiv (-c.side * (if i.sumA = 0 then 0 else effectiveDemand c i * i.aOwn / i.sumA : Nat) * c.assist * i.r)
            1000000
        else 0 := by
      rw [turnAssist, hbase]
      rfl
    refine ⟨rfl, hbase, hassist, ?_, effectiveDemand_le_sumA c i, fun k hk => effectiveDemand_le_cap hk,
      hbase ▸ baseShare_le c i, natAbs_shareTarget_le c i, fun hside => hassist ▸ ?_, fun hside hlow hr => ?_⟩
    · rw [shareTarget_eq, hassist, hbase]
      rfl
    · simp [turnAssist, hside, quot]
    · have := two_mul_turnAssist_le hside hlow hr
      rw [hassist, hbase] at this
      exact this
  · refine ⟨fun h0 hlt => ?_, fun h0 hlt => ?_, ?_, fun h0 hlt => ?_, rampStep_mirror r target sp⟩
    all_goals
      unfold rampStep
      split_ifs <;> omega

/-- Truncated shares of a total sum to no more than their share of the sum. -/
theorem sum_share_le (q total : Nat) (powers : List Nat) :
    (powers.map fun a => q * a / total).sum ≤ q * powers.sum / total := by
  induction powers with
  | nil => simp
  | cons a powers ih =>
    calc (((a :: powers).map fun a => q * a / total).sum)
        = q * a / total + (powers.map fun a => q * a / total).sum := by simp
      _ ≤ q * a / total + q * powers.sum / total := Nat.add_le_add_left ih _
      _ ≤ (q * a + q * powers.sum) / total := Nat.div_add_div_le_add_div
      _ = q * (a :: powers).sum / total := by rw [List.sum_cons, Nat.mul_add]

/-- Settles O29: every station's base share is its truncated share of one effective demand. -/
theorem sharesWithinCap : Obligations.SharesWithinCap := by
  intro c d r cap powers
  have hsum : (powers.map fun a => baseShare c ⟨d, r, powers.sum, cap, a⟩).sum
      ≤ effectiveDemand c ⟨d, r, powers.sum, cap, 0⟩ :=
    (sum_share_le (effectiveDemand c ⟨d, r, powers.sum, cap, 0⟩) powers.sum powers).trans
      (Nat.div_le_of_le_mul (Nat.mul_comm _ _).le)
  exact ⟨hsum, fun k hk => hsum.trans (effectiveDemand_le_cap hk)⟩

/-! ### The engine condition (R61, R62) -/

section
variable {c : P1} {speed : Nat} {x : Tsu}

theorem expectedSpeed_eq (c : P1) (sp : Int) :
    expectedSpeed c sp =
      c.idleRpm + perEngineFigure .expected (((c.ratedRpm : Int) - c.idleRpm) * sp.natAbs) c.ratedKw := rfl

theorem condStep_fault (h : x.cond = .fault) :
    condStep c speed x =
      if speed < c.idleRpm then { x with lag := 0, inBand := 0, recovery := 0 }
      else if 20 ≤ x.recovery + 1 then { x with cond := .normal, lag := 0, inBand := 0, recovery := 0 }
      else { x with lag := 0, inBand := 0, recovery := x.recovery + 1 } := by
  rw [condStep, h]

theorem condStep_running (h : x.cond ≠ .fault) :
    condStep c speed x =
      if c.stallRpm ≤ speed then { lagStep c speed x with stall := 0 }
      else if 20 ≤ x.stall + 1 then { lagStep c speed x with cond := .fault, lag := 0, inBand := 0, stall := 0 }
      else { lagStep c speed x with stall := x.stall + 1 } := by
  unfold condStep
  split
  next hf => exact absurd hf h
  all_goals rfl

/-- An engine that runs and has not stalled has the condition and the counts of the lag rule. -/
theorem condStep_lag (hx : x.cond ≠ .fault) (hy : (condStep c speed x).cond ≠ .fault) :
    (condStep c speed x).cond = (lagStep c speed x).cond ∧ (condStep c speed x).lag = (lagStep c speed x).lag
      ∧ (condStep c speed x).inBand = (lagStep c speed x).inBand := by
  rw [condStep_running hx] at hy ⊢
  split
  · exact ⟨rfl, rfl, rfl⟩
  next hstall =>
    split
    next hlong => rw [if_neg hstall, if_pos hlong] at hy; exact absurd rfl hy
    next => exact ⟨rfl, rfl, rfl⟩

/-- The lag rule below and within the band, by the condition (R61). -/
theorem lagStep_eq :
    (¬ (x.gear = .at .ahead ∨ x.gear = .at .astern) → lagStep c speed x = { x with lag := 0, inBand := 0 })
      ∧ (x.gear = .at .ahead ∨ x.gear = .at .astern → x.cond = .normal →
          lagStep c speed x =
            if ¬ (speed : Int) < expectedSpeed c x.sp - c.lagBand then { x with lag := 0, inBand := 0 }
            else if c.lagTime * 10 ≤ x.lag + 1 then { x with cond := .lagging, lag := 0, inBand := 0 }
            else { x with lag := x.lag + 1, inBand := 0 })
      ∧ (x.gear = .at .ahead ∨ x.gear = .at .astern → x.cond = .lagging →
          lagStep c speed x =
            if (speed : Int) < expectedSpeed c x.sp - c.lagBand then { x with lag := 0, inBand := 0 }
            else if c.lagTime * 10 ≤ x.inBand + 1 then { x with cond := .normal, lag := 0, inBand := 0 }
            else { x with lag := 0, inBand := x.inBand + 1 }) := by
  refine ⟨fun hg => ?_, fun hg hc => ?_, fun hg hc => ?_⟩
  · have : (x.gear == .at .ahead || x.gear == .at .astern) = false := by simpa using hg
    simp [lagStep, this]
  all_goals
    have : (x.gear == .at .ahead || x.gear == .at .astern) = true := by simpa using hg
    simp [lagStep, this, hc]

theorem lagStep_cond (h : x.cond ≠ .fault) : (lagStep c speed x).cond ≠ .fault := by
  obtain ⟨hout, hnormal, hlagging⟩ := lagStep_eq (c := c) (speed := speed) (x := x)
  by_cases hg : x.gear = .at .ahead ∨ x.gear = .at .astern
  · cases hc : x.cond with
    | fault => exact absurd hc h
    | normal =>
      rw [hnormal hg hc]
      split_ifs <;> simp [hc]
    | lagging =>
      rw [hlagging hg hc]
      split_ifs <;> simp [hc]
  · rw [hout hg]
    exact h

theorem lagStep_keeps (h : x.cond ≠ .fault) :
    lagStep c speed x =
      { x with
        cond := (lagStep c speed x).cond, lag := (lagStep c speed x).lag, inBand := (lagStep c speed x).inBand } := by
  obtain ⟨hout, hnormal, hlagging⟩ := lagStep_eq (c := c) (speed := speed) (x := x)
  by_cases hg : x.gear = .at .ahead ∨ x.gear = .at .astern
  · cases hc : x.cond with
    | fault => exact absurd hc h
    | normal =>
      rw [hnormal hg hc]
      split_ifs <;> simp [hc]
    | lagging =>
      rw [hlagging hg hc]
      split_ifs <;> simp [hc]
  · rw [hout hg]

/-- The condition, its counts, and no other field of TSU. -/
theorem condStep_keepsRest :
    condStep c speed x =
      { x with
        cond := (condStep c speed x).cond, lag := (condStep c speed x).lag, inBand := (condStep c speed x).inBand
        stall := (condStep c speed x).stall, recovery := (condStep c speed x).recovery } := by
  by_cases hx : x.cond = .fault
  · rw [condStep_fault hx]
    split_ifs <;> rfl
  · rw [condStep_running hx, lagStep_keeps hx]
    split_ifs <;> rfl

theorem condStep_shiftTimer : (condStep c speed x).shiftTimer = x.shiftTimer := by rw [condStep_keepsRest]

end

/-- Settles O30: FAULT by its recovery count; else the stall count, and the lag rule where it leaves the engine running. -/
theorem engineCondition : Obligations.EngineCondition := by
  unfold Obligations.EngineCondition
  intro c speed x
  simp only
  rw [← expectedSpeed_eq]
  obtain ⟨hout, hnormal, hlagging⟩ := lagStep_eq (c := c) (speed := speed) (x := x)
  refine ⟨fun hx hslow hlong => ?_, fun hx hslow hshort => ?_, fun hx hfast => ?_, fun hx hfast hlong => ?_,
    fun hx hfast hshort => ?_, fun hx hslow => ?_, fun hy => ⟨fun hx hg => ?_, fun hx hg hb hl => ?_, fun hx hg hb hl => ?_,
    fun hx hg hb => ?_, fun hx hg hb hl => ?_, fun hx hg hb hl => ?_, fun hx hg hb => ?_⟩, condStep_keepsRest⟩
  · rw [condStep_running hx, if_neg (by omega), if_pos (by omega)]
    exact ⟨rfl, rfl, rfl, rfl⟩
  · rw [condStep_running hx, if_neg (by omega), if_neg (by omega)]
    exact ⟨lagStep_cond hx, rfl⟩
  · rw [condStep_running hx, if_pos hfast]
    exact ⟨lagStep_cond hx, rfl⟩
  · rw [condStep_fault hx, if_neg (by omega), if_pos (by omega)]
    exact ⟨rfl, rfl⟩
  · rw [condStep_fault hx, if_neg (by omega), if_neg (by omega)]
    exact ⟨hx, rfl⟩
  · rw [condStep_fault hx, if_pos hslow]
    exact ⟨hx, rfl⟩
  · obtain ⟨hcond, hlag, hband⟩ := condStep_lag hx hy
    rw [hcond, hlag, hband, hout hg]
    exact ⟨rfl, rfl, rfl⟩
  all_goals
    obtain ⟨hcond, hlag, hband⟩ := condStep_lag (by rw [hx]; nofun) hy
    rw [hcond]
  · rw [hlag, hnormal hg hx, if_neg (not_not.mpr hb), if_pos (by omega)]
    exact ⟨rfl, rfl⟩
  · rw [hlag, hnormal hg hx, if_neg (not_not.mpr hb), if_neg (by omega)]
    exact ⟨hx, rfl⟩
  · rw [hlag, hnormal hg hx, if_pos hb]
    exact ⟨hx, rfl⟩
  · rw [hband, hlagging hg hx, if_neg hb, if_pos (by omega)]
    exact ⟨rfl, rfl⟩
  · rw [hband, hlagging hg hx, if_neg hb, if_neg (by omega)]
    exact ⟨hx, rfl⟩
  · rw [hband, hlagging hg hx, if_pos hb]
    exact ⟨hx, rfl⟩

/-! ### The shift timer (R58 to R60) -/

section
variable {s : State} {d : Nat} {origin target : Gear} (hp : s.powered = true) (ht : s.tsu.shiftTimer = some d)
include hp ht

theorem exec_rundownTimeout (hg : s.tsu.gear = .shifting .rundown origin target) :
    exec .rundownTimeout s = .next (onLatched (fun l => { l with gearFault := true })
      (commitTsu { s.tsu with gear := .at origin, shiftTimer := none } (reach d s))) := by
  change execRundownTimeout s = _
  rw [execRundownTimeout, live_of_powered hp, hg, ht]
  rfl

theorem exec_dwellExpiry (hg : s.tsu.gear = .shifting .dwell origin target) :
    exec .dwellExpiry s = .next (commitTsu
      (if dwellGear s = .neutral then { s.tsu with gear := .at .neutral, shiftTimer := none }
       else { s.tsu with gear := .shifting .engage origin (dwellGear s), shiftTimer := some (d + ms 1000) })
      (reach d s)) := by
  change execDwellExpiry s = _
  rw [execDwellExpiry, live_of_powered hp, hg, ht]
  rfl

theorem exec_settleExpiry (hg : s.tsu.gear = .shifting .engage origin target) :
    exec .settleExpiry s = .next (commitTsu { s.tsu with gear := .at target, shiftTimer := none } (reach d s)) := by
  change execSettleExpiry s = _
  rw [execSettleExpiry, live_of_powered hp, hg, ht]
  rfl

end

theorem dwellGear_eq (s : State) :
    dwellGear s = if s.sc.station = .hold ∨ s.tau.latch = true then Gear.neutral else signGear (used s).d := by
  simp only [dwellGear, Bool.or_eq_true, beq_iff_eq]
  rfl

theorem commitTsu_onlyChanges (x : Tsu) (s : State) : onlyChanges [.tsu, .dch] s (commitTsu x s) :=
  fun p hp => by cases p <;> simp_all [StatePart.same, commitTsu]

theorem onLatched_onlyChanges (f : Latched → Latched) (s : State) : onlyChanges [.tau] s (onLatched f s) :=
  fun p hp => by cases p <;> simp_all [StatePart.same, onLatched]

theorem reach_onlyChanges (d : Nat) (s : State) : onlyChanges [.now] s (reach d s) :=
  fun p hp => by cases p <;> simp_all [StatePart.same, reach]

/-- Settles O33: the three expiries by the shift phase. -/
theorem shiftTimers : Obligations.ShiftTimers := by
  intro s d origin target hp ht
  have hrest (x : Tsu) : onlyChanges [.now, .tsu, .dch] s (commitTsu x (reach d s)) :=
    ((reach_onlyChanges d s).mono (by decide)).trans ((commitTsu_onlyChanges _ _).mono (by decide))
  refine ⟨fun hg => ⟨_, exec_rundownTimeout hp ht hg, rfl, rfl, rfl, commitTsu_thrustRequests _ (reach d s), ?_⟩,
    fun hg => ⟨_, exec_dwellExpiry hp ht hg, rfl, ?_, commitTsu_thrustRequests _ (reach d s), hrest _⟩,
    fun hg => ⟨_, exec_settleExpiry hp ht hg, rfl, rfl, commitTsu_thrustRequests _ (reach d s), hrest _⟩⟩
  · exact ((hrest _).mono (by decide)).trans ((onLatched_onlyChanges _ _).mono (by decide))
  · rw [← dwellGear_eq]
    change (if _ then _ else _) = _
    by_cases h : dwellGear s = .neutral
    · rw [if_pos h, if_pos h, if_pos h]
    · rw [if_neg h, if_neg h, if_neg h]
      rfl

/-! ### The gear rules at a scan completion (R55 to R57, R63) -/

section
variable {c : P1} {i : GearInputs} {t : Tsu}

theorem gearStep_at_follow {g : Gear} (hg : t.gear = .at g) (h : i.target = 0 ∨ signGear i.target = g) :
    gearStep c i t = { t with sp := if g = .neutral then 0 else rampStep i.ramp i.target t.sp } := by
  rw [gearStep, hg]
  exact if_pos h

theorem gearStep_at_fault {g : Gear} (hg : t.gear = .at g) (h0 : i.target ≠ 0) (h : signGear i.target ≠ g)
    (hf : i.fault = true) :
    gearStep c i t = { t with sp := if g = .neutral then 0 else rampStep i.ramp 0 t.sp } := by
  rw [gearStep, hg]
  exact (if_neg (not_or.mpr ⟨h0, h⟩)).trans (if_pos hf)

theorem gearStep_at_shift {g : Gear} (hg : t.gear = .at g) (h0 : i.target ≠ 0) (h : signGear i.target ≠ g)
    (hf : i.fault = false) :
    gearStep c i t = rundownStep c i g { t with shiftTimer := some (i.now + ms 10000) } := by
  rw [gearStep, hg]
  exact (if_neg (not_or.mpr ⟨h0, h⟩)).trans (if_neg (by simp [hf]))

theorem gearStep_rundown {origin aim : Gear} (hg : t.gear = .shifting .rundown origin aim) :
    gearStep c i t = rundownStep c i origin t := by
  rw [gearStep, hg]

theorem gearStep_dwell {origin aim : Gear} (hg : t.gear = .shifting .dwell origin aim) :
    gearStep c i t = { t with gear := .shifting .dwell origin (signGear i.d), sp := 0 } := by
  rw [gearStep, hg]
  rfl

theorem gearStep_engage {origin aim : Gear} (hg : t.gear = .shifting .engage origin aim) :
    gearStep c i t = { t with sp := 0 } := by
  rw [gearStep, hg]

theorem rundownStep_abandoned (h : i.target = 0) :
    rundownStep c i .neutral t = { t with gear := .at .neutral, shiftTimer := none, sp := 0 } := if_pos h

theorem rundownStep_neutral (h : i.target ≠ 0) :
    rundownStep c i .neutral t =
      { t with
        sp := 0, gear := .shifting (if i.speed ≤ c.shiftRpm then .engage else .rundown) .neutral (signGear i.target)
        shiftTimer := if i.speed ≤ c.shiftRpm then some (i.now + 1000000) else t.shiftTimer } := by
  rw [rundownStep, if_neg h]
  split <;> rfl

theorem rundownStep_back {g : Gear} (hg : g ≠ .neutral) (h : signGear i.target = g) :
    rundownStep c i g t = { t with gear := .at g, shiftTimer := none, sp := rampStep i.ramp i.target t.sp } := by
  cases g with
  | neutral => exact absurd rfl hg
  | ahead | astern => exact if_pos h

theorem rundownStep_down {g : Gear} (hg : g ≠ .neutral) (h : signGear i.target ≠ g) :
    rundownStep c i g t =
      { t with
        sp := rampStep i.ramp 0 t.sp
        gear :=
          .shifting (if rampStep i.ramp 0 t.sp = 0 ∧ i.speed ≤ c.shiftRpm then .dwell else .rundown) g (signGear i.d)
        shiftTimer :=
          if rampStep i.ramp 0 t.sp = 0 ∧ i.speed ≤ c.shiftRpm then some (i.now + 1500000) else t.shiftTimer } := by
  cases g with
  | neutral => exact absurd rfl hg
  | ahead | astern =>
    refine (if_neg h).trans ?_
    change (if _ then _ else _) = _
    split <;> rfl

theorem gearStep_cond (c : P1) (i : GearInputs) (t : Tsu) : (gearStep c i t).cond = t.cond := by
  have hrundown (g : Gear) (u : Tsu) : (rundownStep c i g u).cond = u.cond := by
    unfold rundownStep
    simp only
    repeat' split
    all_goals rfl
  unfold gearStep
  repeat' split
  all_goals first | rfl | exact hrundown _ _

end

theorem some_add_ite {p : Prop} [Decidable p] (n a b : Nat) :
    (if p then some (n + a) else some (n + b)) = some (n + if p then a else b) := by
  split <;> rfl

theorem tripped_cond (x : Tsu) : (tripped x).cond = x.cond := by
  unfold tripped
  split <;> rfl

theorem signGear_ne_neutral {x : Int} (h : x ≠ 0) : signGear x ≠ .neutral := by
  unfold signGear
  split_ifs
  · decide
  · decide
  · omega

theorem derateOf_working {st : StationState} (h : working st = true) (cond : EngineCond) (reserve : Bool) :
    derateOf st cond reserve = workingDerate cond reserve := by
  cases st <;> first | rfl | simp [working] at h

theorem govDuty_eq_governorDuty {st : StationState} (h : working st = true) (c : P1) (sp : Int) :
    govDuty c st sp = governorDuty c sp := by
  rw [governorDuty]
  split
  next h0 => rw [h0, govDuty_zero c h]
  next => cases st <;> first | rfl | simp [working] at h

/-- TSU's record with A_own evaluated and sp cut, as a scan completion in RUN or HOLD goes on with it (R43, R52, R61). -/
def poweredTsu (s : State) (speed : Nat) : Tsu :=
  let x := condStep (cfg1 s) speed s.tsu
  let a := min 8000 ((cfg1 s).ratedKw * workingDerate x.cond (tankReserve s) / 1000)
  { x with
    derate := workingDerate x.cond (tankReserve s), aOwn := a, sp := max (-(a : Int)) (min (a : Int) x.sp) }

theorem powerStep_condStep {s : State} {st : StationState} (h : working st = true) (speed : Nat) :
    powerStep (cfg1 s) st (tankReserve s) (condStep (cfg1 s) speed s.tsu) = poweredTsu s speed := by
  rw [powerStep, derateOf_working h]
  rfl

/-- The target of a scan completion in RUN (R46 to R49). -/
def targetOf (s : State) (speed : Nat) : Int :=
  shareTarget (cfg1 s)
    ⟨(used s).d, (used s).r, (poweredTsu s speed).aOwn + sumPower s, lowestCap s, (poweredTsu s speed).aOwn⟩

/-- TSU's record in RUN before its duty: the trip rule, or the gear rules toward the target (R45). -/
theorem tsuRun_eq (s : State) (speed : Nat) :
    tsuRun s speed =
      dutyStep (cfg1 s) .run
        (if s.tau.latch then tripped (poweredTsu s speed)
         else
          gearStep (cfg1 s)
            ⟨s.now, rampUsed s, targetOf s speed, (used s).d, s.tau.latched.gearFault, speed⟩
            { poweredTsu s speed with target := targetOf s speed }) := by
  rw [tsuRun]
  simp only [powerStep_condStep (st := .run) rfl, tripGear_eq_tripped]
  rfl

theorem tsuHold_eq (s : State) (speed : Nat) :
    tsuHold s speed =
      dutyStep (cfg1 s) .hold
        (if s.tau.latch then tripped (poweredTsu s speed)
         else gearStep (cfg1 s) ⟨s.now, (cfg1 s).confRamp, 0, 0, true, speed⟩ (poweredTsu s speed)) := by
  rw [tsuHold]
  simp only [powerStep_condStep (st := .hold) rfl, tripGear_eq_tripped]

theorem tsuRun_cond (s : State) (speed : Nat) : (tsuRun s speed).cond = (condStep (cfg1 s) speed s.tsu).cond := by
  rw [tsuRun_eq]
  simp only [dutyStep]
  split
  · exact tripped_cond _
  · exact gearStep_cond _ _ _

theorem tsuHold_cond (s : State) (speed : Nat) : (tsuHold s speed).cond = (condStep (cfg1 s) speed s.tsu).cond := by
  rw [tsuHold_eq]
  simp only [dutyStep]
  split
  · exact tripped_cond _
  · exact gearStep_cond _ _ _

theorem exec_tsuScan {s : State} {m : SampleSet} (hp : s.powered = true) (hm : s.ssq.sample = some m)
    (hd : s.due.tsu = true) :
    exec .tsuScanCompletion s = .next (tsuScan m.rpm { s with due := { s.due with tsu := false } }) := by
  change execTsuScanCompletion s = _
  simp [execTsuScanCompletion, live, hp, hm, hd]

/-- The commit of TSU's record with the event of ENGINE_FAULT (R62, R143). -/
theorem engineFaultEvent_commit (x : Tsu) (s : State) :
    (engineFaultEvent s.tsu x (commitTsu x s)).tsu = x
      ∧ (engineFaultEvent s.tsu x (commitTsu x s)).due = s.due
      ∧ (engineFaultEvent s.tsu x (commitTsu x s)).dch = (commitTsu x s).dch
      ∧ (engineFaultEvent s.tsu x (commitTsu x s)).tau =
          { s.tau with
            latched :=
              { s.tau.latched with
                engineFault := s.tau.latched.engineFault || decide (s.tsu.cond ≠ .fault ∧ x.cond = .fault) } }
      ∧ onlyChanges [.tsu, .tau, .dch] s (engineFaultEvent s.tsu x (commitTsu x s)) := by
  refine ⟨rfl, rfl, rfl, ?_, ((commitTsu_onlyChanges x s).mono (by decide)).trans
    ((onLatched_onlyChanges _ _).mono (by decide))⟩
  simp only [engineFaultEvent, onLatched, commitTsu, Bool.decide_and, decide_not, bne, beq_eq_decide]

theorem tsuScan_run {s : State} (speed : Nat) (h : s.sc.station = .run) :
    tsuScan speed { s with due := { s.due with tsu := false } } =
      engineFaultEvent s.tsu (tsuRun s speed) (commitTsu (tsuRun s speed) { s with due := { s.due with tsu := false } }) := by
  simp only [tsuScan, h]
  rfl

theorem tsuScan_hold {s : State} (speed : Nat) (h : s.sc.station = .hold) :
    tsuScan speed { s with due := { s.due with tsu := false } } =
      engineFaultEvent s.tsu (tsuHold s speed)
        (commitTsu (tsuHold s speed) { s with due := { s.due with tsu := false } }) := by
  simp only [tsuScan, h]
  rfl

theorem tsuDelivered_onlyChanges (s : State) : onlyChanges [.due] s { s with due := { s.due with tsu := false } } :=
  fun p hp => by cases p <;> simp_all [StatePart.same]

/-- Settles O31: TSU's record after the scan completion, by the latch, the gear state and the target. -/
theorem thrustScanInRun : Obligations.ThrustScanInRun := by
  unfold Obligations.ThrustScanInRun
  intro s m hp hm hd hrun
  have hcommit := engineFaultEvent_commit (tsuRun s m.rpm) { s with due := { s.due with tsu := false } }
  obtain ⟨htsu, hdue, hdch, htau, hrest⟩ := hcommit
  rw [tsuRun_cond] at htau
  have hduty : (tsuRun s m.rpm).dutyReq = governorDuty (cfg1 s) (tsuRun s m.rpm).sp :=
    govDuty_eq_governorDuty (st := .run) rfl _ _
  have hclear (hl : s.tau.latch = false) : tsuRun s m.rpm =
      dutyStep (cfg1 s) .run (gearStep (cfg1 s)
        ⟨s.now, rampUsed s, targetOf s m.rpm, (used s).d, s.tau.latched.gearFault, m.rpm⟩
        { poweredTsu s m.rpm with target := targetOf s m.rpm }) := by
    rw [tsuRun_eq, hl]
    rfl
  have hgear {g : GearState} (hg : (condStep (cfg1 s) m.rpm s.tsu).gear = g) :
      ({ poweredTsu s m.rpm with target := targetOf s m.rpm } : Tsu).gear = g := hg
  refine ⟨_, exec_tsuScan hp hm hd, ?_⟩
  rw [tsuScan_run m.rpm hrun]
  refine ⟨((tsuDelivered_onlyChanges s).mono (by decide)).trans (hrest.mono (by decide)), rfl, ?_, ?_, ?_, hduty, fun hl => ?_,
    fun hl g hg => ⟨fun h => ?_, fun h0 h hf => ?_, fun h0 hf hn => ?_, fun h0 h hf hn => ?_⟩,
    fun hl origin aim hg => ⟨fun hn h => ?_, fun hn h => ?_, fun hn h => ?_, fun hn h => ?_⟩, fun hl origin aim hg => ?_,
    fun hl origin aim hg => ?_⟩
  · exact hdch.trans (commitTsu_thrustRequests (tsuRun s m.rpm) { s with due := { s.due with tsu := false } })
  · exact congrArg Tau.latched htau
  · rw [htau]
  all_goals refine htsu.trans ?_
  · rw [tsuRun_eq, hl]
    rfl
  all_goals rw [hclear hl]
  · rw [gearStep_at_follow (hgear hg) h]
    rfl
  · rw [gearStep_at_fault (hgear hg) h0 h hf]
    rfl
  · subst hn
    rw [gearStep_at_shift (hgear hg) h0 (signGear_ne_neutral h0) hf, rundownStep_neutral h0]
    simp only [some_add_ite, ms]
    rfl
  · rw [gearStep_at_shift (hgear hg) h0 h hf, rundownStep_down hn h]
    simp only [some_add_ite, ms]
    rfl
  · rw [gearStep_rundown (hgear hg), rundownStep_back hn h]
    rfl
  · rw [gearStep_rundown (hgear hg), rundownStep_down hn h]
    rfl
  · subst hn
    rw [gearStep_rundown (hgear hg), rundownStep_abandoned h]
    rfl
  · subst hn
    rw [gearStep_rundown (hgear hg), rundownStep_neutral h]
    rfl
  · rw [gearStep_dwell (hgear hg)]
    rfl
  · rw [gearStep_engage (hgear hg)]
    rfl

theorem tsuScan_joining {s : State} (speed : Nat) (h : s.sc.station = .joining) :
    tsuScan speed { s with due := { s.due with tsu := false } } =
      commitTsu (tsuJoining s) { s with due := { s.due with tsu := false } } := by
  simp only [tsuScan, h]
  rfl

theorem tsuScan_idle {s : State} (speed : Nat) (h : s.sc.station = .listen ∨ s.sc.station = .safe) :
    tsuScan speed { s with due := { s.due with tsu := false } } = { s with due := { s.due with tsu := false } } := by
  obtain h | h := h <;> simp only [tsuScan, h]

theorem tsuJoining_eq (s : State) :
    tsuJoining s =
      { s.tsu with
        sp := 0, gear := .at .neutral, shiftTimer := none, lag := 0, inBand := 0, stall := 0, recovery := 0
        derate := 0, aOwn := 0, dutyReq := (cfg1 s).idleDuty } := by
  simp [tsuJoining, dutyStep, powerStep, derateOf, cutSp, clampInt, govDuty]

/-- Settles O32: TSU's record by the station state; in HOLD by the latch and the gear state, with the target 0. -/
theorem thrustScanElsewhere : Obligations.ThrustScanElsewhere := by
  unfold Obligations.ThrustScanElsewhere
  intro s m hp hm hd
  have hcommit := engineFaultEvent_commit (tsuHold s m.rpm) { s with due := { s.due with tsu := false } }
  obtain ⟨htsu, hdue, hdch, htau, hrest⟩ := hcommit
  rw [tsuHold_cond] at htau
  have hduty : (tsuHold s m.rpm).dutyReq = governorDuty (cfg1 s) (tsuHold s m.rpm).sp :=
    govDuty_eq_governorDuty (st := .hold) rfl _ _
  have hrequests := hdch.trans (commitTsu_thrustRequests (tsuHold s m.rpm) { s with due := { s.due with tsu := false } })
  have hclear (hl : s.tau.latch = false) : tsuHold s m.rpm =
      dutyStep (cfg1 s) .hold
        (gearStep (cfg1 s) ⟨s.now, (cfg1 s).confRamp, 0, 0, true, m.rpm⟩ (poweredTsu s m.rpm)) := by
    rw [tsuHold_eq, hl]
    rfl
  have hgear {g : GearState} (hg : (condStep (cfg1 s) m.rpm s.tsu).gear = g) : (poweredTsu s m.rpm).gear = g := hg
  refine ⟨_, exec_tsuScan hp hm hd, (exec_onlyChanges (exec_tsuScan hp hm hd)).mono (by decide), by simp, fun hst => ?_,
    fun hst hl g hg => ⟨?_, ?_, ?_⟩, fun hst => ⟨?_, ?_⟩,
    fun hst hl => ?_, fun hst hl => ⟨?_, ?_, ?_⟩, fun hst => ?_, fun hst => tsuScan_idle m.rpm hst⟩
  all_goals first | rw [tsuScan_hold m.rpm hst] | rw [tsuScan_joining m.rpm hst]
  · exact htau
  · refine htsu.trans ?_
    rw [hclear hl, gearStep_at_follow (hgear hg) (.inl rfl)]
    rfl
  · exact hduty
  · exact hrequests
  · exact hduty
  · exact hrequests
  · refine ⟨fun aim hg => htsu.trans ?_, fun origin aim hg hn => htsu.trans ?_, fun origin aim hg => htsu.trans ?_,
      fun origin aim hg => htsu.trans ?_⟩ <;> rw [hclear hl]
    · rw [gearStep_rundown (hgear hg), rundownStep_abandoned rfl]
      rfl
    · rw [gearStep_rundown (hgear hg), rundownStep_down hn (show signGear 0 ≠ origin from Ne.symm hn)]
      rw [show (poweredTsu s m.rpm).shiftTimer = s.tsu.shiftTimer from condStep_shiftTimer]
      rfl
    · rw [gearStep_dwell (hgear hg)]
      rfl
    · rw [gearStep_engage (hgear hg)]
      rfl
  · refine htsu.trans ?_
    rw [tsuHold_eq, hl]
    rfl
  · refine hduty.trans (if_pos ?_)
    rw [tsuHold_eq, hl]
    exact tripped_sp _
  · exact hrequests
  · exact ⟨tsuJoining_eq s, commitTsu_thrustRequests (tsuJoining s) { s with due := { s.due with tsu := false } }, rfl⟩

end Sys2Proof.Machine
end

section
/-! PROOFS. The rudder: the jam timer, the overrides, and STU's scan completion (R69 to R84, R167, R168). -/

namespace Sys2Proof.Machine

open Sys2Proof

/-! ### The rudder (R69 to R84) -/

/-- STU's record as it is committed: responsive in FOLLOWING in RUN alone (R70). -/
theorem commitStu_eq (x : Stu) (s : State) :
    commitStu x s =
      { s with
        stu := { x with responsive := x.state == .following && s.sc.station == .run }
        dch := coilRequests s.dch x.reqPort x.reqStbd } := rfl

theorem commitStu_standIn {st : RudderState} (hst : st ≠ .following) (x : Stu) (s : State) :
    commitStu (standIn st x) s = { s with stu := atRestIn st x, dch := coilRequests s.dch 0 0 } := by
  rw [commitStu_eq]
  simp [standIn, atRestIn, hst]

/-- Settles O37: the watch's end stops a rudder that follows. -/
theorem jamTimer : Obligations.JamTimer := by
  intro s w hp hst hw
  change execJamTimerExpiry s = _
  rw [execJamTimerExpiry, live_of_powered hp, if_pos hst, hw]
  have hcommit := commitStu_standIn (st := .jammed) (by decide) s.stu (reach w.timer s)
  simp only [atExpiry, Option.map_some]
  rw [show (reach w.timer s).stu = s.stu from rfl, hcommit]
  rfl

/-! #### The overrides (R78, R167, R168) -/

/-- A pair cut on both sides is off; the side that drove is the last and its dead-time runs. -/
theorem cutOf_both (dead : Nat) (p : Pair) :
    (cutOf dead .one (cutOf dead .two p)).app1 = 0 ∧ (cutOf dead .one (cutOf dead .two p)).app2 = 0
      ∧ ∀ a, activeSide p = some a →
          (cutOf dead .one (cutOf dead .two p)).last = some a ∧ (cutOf dead .one (cutOf dead .two p)).dead = some dead := by
  cases ha : activeSide p with
  | none =>
    have hoff := activeSide_eq_none.mp ha
    simp [cutOf, ha, hoff]
  | some a =>
    cases a with
    | one =>
      have htwo : cutOf dead .two p = p := if_neg (by rw [ha]; decide)
      rw [htwo, cutOf, if_pos ha]
      simp
    | two =>
      have htwo : cutOf dead .two p = { p with app1 := 0, app2 := 0, last := some .two, dead := some dead } := if_pos ha
      rw [htwo, cutOf, if_neg (by simp [activeSide])]
      simp

/-- STEER_STOP at STU: latched while joined, and a rudder that is not stopped or jammed already enters STOPPED (R78). -/
theorem stuStop_eq (s : State) :
    (joined s.sc.station = false → stuStop s = s)
      ∧ (joined s.sc.station = true →
          (stuStop s).tau = { s.tau with latched := { s.tau.latched with steerStop := true } }
            ∧ (s.stu.state = .resting ∨ s.stu.state = .following ∨ s.stu.state = .blind →
                (stuStop s).stu = atRestIn .stopped s.stu ∧ (stuStop s).dch = coilRequests s.dch 0 0)
            ∧ (¬ (s.stu.state = .resting ∨ s.stu.state = .following ∨ s.stu.state = .blind) →
                (stuStop s).stu = s.stu ∧ (stuStop s).dch = s.dch)) := by
  refine ⟨fun hj => if_neg (by simp [hj]), fun hj => ⟨?_, fun hst => ?_, fun hst => ?_⟩⟩ <;> rw [stuStop, if_pos hj]
  · split <;> rfl
  · obtain h | h | h := hst <;> simp only [h, commitStu_standIn (show RudderState.stopped ≠ .following by decide)] <;>
      exact ⟨rfl, rfl⟩
  · split
    next h => exact absurd (.inl h) hst
    next h => exact absurd (.inr (.inl h)) hst
    next h => exact absurd (.inr (.inr h)) hst
    all_goals exact ⟨rfl, rfl⟩

/-- STU's part of a STEER_STOP changes requests of the rudder pair alone at DCH. -/
theorem stuStop_dch (s : State) :
    (stuStop s).dch =
      { s.dch with
        rud := { s.dch.rud with req1 := (stuStop s).dch.rud.req1, req2 := (stuStop s).dch.rud.req2 } } := by
  unfold stuStop
  repeat' split
  all_goals rfl

/-- Settles O38: DCH's cut of the coils, then STU's part of a STEER_STOP. -/
theorem rudderOverrides : Obligations.RudderOverrides := by
  refine ⟨fun s hp => ⟨(live_of_powered hp : execSteerStopInactive s = _), fun hin => ?_, fun hin hfit => ?_, fun hin hfit => ?_⟩, fun s x hp =>
    ⟨?_, fun hin => ?_, fun hin hfit => ?_, fun hin hfit => ?_⟩⟩
  · change execSteerStopActive s = _
    rw [execSteerStopActive, live_of_powered hp, if_pos hin]
  · refine ⟨stuStop (cutRudder { s with pins := { s.pins with steerStop := true } }), ?_, by simp [cutRudder], ?_⟩
    · change execSteerStopActive s = _
      rw [execSteerStopActive, live_of_powered hp, if_neg (by simp [hin])]
      exact congrArg Host.Outcome.next (if_pos hfit)
    have hrud := stuStop_dch (cutRudder { s with pins := { s.pins with steerStop := true } })
    obtain ⟨hidle, hjoined⟩ := stuStop_eq (cutRudder { s with pins := { s.pins with steerStop := true } })
    obtain ⟨hone, htwo, hlast⟩ := cutOf_both (s.now + (cfg2 s).deadTime) s.dch.rud
    refine ⟨?_, ?_, fun a ha => ?_, fun hst => ?_, fun hj => ⟨?_, fun hst => ?_, fun hst => ?_⟩, fun p hp => ?_, ?_⟩
    · rw [hrud]
      exact hone
    · rw [hrud]
      exact htwo
    · rw [hrud]
      exact hlast a ha
    · rw [hidle (show joined s.sc.station = false by obtain h | h := hst <;> rw [h] <;> rfl)]
      exact ⟨rfl, rfl⟩
    · exact (hjoined hj).1
    · obtain ⟨hstu, hdch⟩ := (hjoined hj).2.1 hst
      rw [hstu, hdch]
      exact ⟨rfl, rfl, rfl⟩
    · exact ((hjoined hj).2.2 (show ¬ (s.stu.state = .resting ∨ s.stu.state = .following ∨ s.stu.state = .blind) by
        simp [hst])).1
    · clear hrud hidle hjoined
      cases p <;> simp_all [StatePart.same, cutRudder]
    · rw [hrud]
      rfl
  · change execSteerStopActive s = _
    rw [execSteerStopActive, live_of_powered hp, if_neg (by simp [hin])]
    exact congrArg Host.Outcome.next (if_neg (by simp [hfit]))
  · cases x <;> exact (live_of_powered hp : execEndStopInactive _ s = _)
  · change execEndStopActive x s = _
    rw [execEndStopActive, live_of_powered hp]
    cases x <;> exact congrArg Host.Outcome.next (if_pos hin)
  · change execEndStopActive x s = _
    rw [execEndStopActive, live_of_powered hp]
    cases x <;> exact congrArg Host.Outcome.next ((if_neg (ne_true_of_eq_false hin)).trans (if_pos hfit))
  · change execEndStopActive x s = _
    rw [execEndStopActive, live_of_powered hp]
    cases x <;>
      exact congrArg Host.Outcome.next ((if_neg (ne_true_of_eq_false hin)).trans (if_neg (ne_true_of_eq_false hfit)))

/-! #### Settling, and the loop closed at a scan completion (R69, R74 to R76, R79, R80, R83) -/

theorem readingValue_isNone_iff (r : Reading) : (readingValue r).isNone = true ↔ givenBy r = none := by
  rw [readingValue_eq_givenBy, Option.isNone_iff_eq_none]

section
variable {s : State} {x : Stu} (hj : joined s.sc.station = true)
include hj

theorem settle_stopped (hin : s.pins.steerStop = true) : settle s x = standIn .stopped x := by
  have hst : ¬ (s.sc.station = .listen ∨ s.sc.station = .safe) := by
    rintro (h | h) <;> simp [h, joined] at hj
  simp only [settle, settledState, if_neg hst, if_pos hin]

theorem settle_blind (hin : s.pins.steerStop = false) {r : Reading} (hr : x.latest = some r) (hnone : givenBy r = none) :
    settle s x = standIn .blind x := by
  have hst : ¬ (s.sc.station = .listen ∨ s.sc.station = .safe) := by
    rintro (h | h) <;> simp [h, joined] at hj
  have hany : x.latest.any (fun r => (readingValue r).isNone) = true := by
    rw [hr, Option.any_some, readingValue_isNone_iff, hnone]
  simp only [settle, settledState, if_neg hst, hin, hany, if_true, Bool.false_eq_true, if_false]

theorem settle_angle (hin : s.pins.steerStop = false) {r : Reading} (hr : x.latest = some r) {v : Int}
    (hv : givenBy r = some v) :
    (s.sc.station = .joining ∨ (s.sc.station = .hold ∧ (cfg2 s).rest = .holdPosition) →
        settle s x = standIn .resting x)
      ∧ (s.sc.station = .run ∨ (s.sc.station = .hold ∧ (cfg2 s).rest = .centre) →
          settle s x = { x with state := .following }) := by
  have hst : ¬ (s.sc.station = .listen ∨ s.sc.station = .safe) := by
    rintro (h | h) <;> simp [h, joined] at hj
  have hany : x.latest.any (fun r => (readingValue r).isNone) = false := by
    rw [hr, Option.any_some, readingValue_eq_givenBy, hv, Option.isNone_some]
  refine ⟨?_, ?_⟩
  · rintro (h | ⟨h, hrest⟩)
    · simp [settle, settledState, hin, hany, h]
    · simp [settle, settledState, hin, hany, h, hrest]
  · rintro (h | ⟨h, hrest⟩)
    · simp [settle, settledState, hin, hany, h]
    · simp [settle, settledState, hin, hany, h, hrest]

end

/-- The jam watch, by the first case that fits (R76). -/
theorem jamStep_cases (c : P2) (now : Nat) (e v : Int) (port stbd : Nat) (j : Option JamWatch) :
    let driven : RudderSide := if stbd ≠ 0 then .stbd else .port
    let fresh : JamWatch := ⟨v, driven, now + 1000 * c.jamLimit⟩
    ((port = 0 ∧ stbd = 0) ∨ e.natAbs ≤ c.jamBand → jamStep c now e v port stbd j = none)
      ∧ (¬ (port = 0 ∧ stbd = 0) → c.jamBand < e.natAbs →
          (j = none → jamStep c now e v port stbd j = some fresh)
            ∧ ∀ w, j = some w →
                (w.side ≠ driven → jamStep c now e v port stbd j = some fresh)
                  ∧ (w.side = driven → (c.deadband : Int) ≤ (if driven = .stbd then v - w.ref else w.ref - v) →
                      jamStep c now e v port stbd j = some fresh)
                  ∧ (w.side = driven → (if driven = .stbd then v - w.ref else w.ref - v) < c.deadband →
                      jamStep c now e v port stbd j = some w)) := by
  intro driven fresh
  have hmoved (w : JamWatch) : movedBy driven w.ref v = if driven = .stbd then v - w.ref else w.ref - v := by
    cases driven <;> rfl
  refine ⟨fun h => if_pos h, fun hdriven hfar => ?_⟩
  have hgo : ¬ ((port = 0 ∧ stbd = 0) ∨ e.natAbs ≤ c.jamBand) := by
    rintro (h | h)
    · exact hdriven h
    · omega
  have hstep : jamStep c now e v port stbd j =
      match j with
      | none => some fresh
      | some w =>
        if w.side ≠ driven then some fresh
        else if (c.deadband : Int) ≤ movedBy driven w.ref v then some fresh else some w := if_neg hgo
  rw [hstep]
  refine ⟨fun hj => by rw [hj], fun w hw => ⟨fun hside => ?_, fun hside hlong => ?_, fun hside hshort => ?_⟩⟩ <;>
    simp only [hw]
  · exact if_pos hside
  · exact (if_neg (not_not.mpr hside)).trans (if_pos ((hmoved w).symm ▸ hlong))
  · exact (if_neg (not_not.mpr hside)).trans (if_neg ((hmoved w).symm ▸ hshort.not_ge))

theorem followAngle_eq {s : State} (h : s.sc.station = .run ∨ s.sc.station = .hold) :
    followAngle s =
      if s.sc.station = .run then
        commandAngle (cfg2 s) (used s).r (compensation (cfg2 s) ((cfg2 s).gain + sumGain s))
      else commandAngle (cfg2 s) 0 (compensation (cfg2 s) (sumGain s)) := by
  obtain h | h := h <;> simp [followAngle, h]

/-- The loop as it is closed and committed at a scan completion in FOLLOWING (R71, R74 to R76, R83). -/
theorem loopClosed_followStep {s : State} {m : SampleSet} {v : Int} {x x' : Stu}
    (hst : s.sc.station = .run ∨ s.sc.station = .hold)
    (hx : x = { x' with state := .following, latest := some m.rudder }) :
    loopClosed s m v x'
      { followStep s m v x with
        responsive := (followStep s m v x).state == .following && s.sc.station == .run } := by
  subst hx
  have hangle := followAngle_eq hst
  unfold loopClosed
  simp only [← hangle]
  by_cases hrest : s.sc.station = .hold ∧ (followAngle s - v).natAbs ≤ (cfg2 s).deadband
  · have hrun : s.sc.station ≠ .run := by rw [hrest.1]; decide
    have hport : ¬ (followAngle s - v < -((cfg2 s).deadband : Int) ∧ m.portLim = false) := by omega
    have hstbd : ¬ (((cfg2 s).deadband : Int) < followAngle s - v ∧ m.stbdLim = false) := by omega
    simp only [followStep, if_pos hrest, standIn, if_neg hport, if_neg hstbd]
    refine ⟨?_, fun _ => trivial, fun h => absurd ⟨trivial, trivial⟩ h⟩
    simp [closeLoop, hrun, hrest.2]
  · have hstate : ¬ (¬ s.sc.station = .run ∧ (followAngle s - v).natAbs ≤ (cfg2 s).deadband) :=
      fun h => hrest ⟨hst.resolve_left h.1, h.2⟩
    simp only [followStep, if_neg hrest, if_neg hstate]
    refine ⟨?_, jamStep_cases _ _ _ _ _ _ _⟩
    simp [closeLoop, coilDuty, beq_eq_decide]

theorem exec_stuScan {s : State} {m : SampleSet} (hp : s.powered = true) (hm : s.ssq.sample = some m)
    (hd : s.due.stu = true) :
    exec .stuScanCompletion s = .next (stuScan m { s with due := { s.due with stu := false } }) := by
  change execStuScanCompletion s = _
  simp [execStuScanCompletion, live, hp, hm, hd]

/-- The rudder's record after the change of state that a scan completion brings (R69, R79, R80). -/
def scanned (s : State) (m : SampleSet) : Stu := scanTransition s m { s.stu with latest := some m.rudder }

/-- A scan completion while joined, by the state after its transition and the angle that the reading gives. -/
theorem stuScan_joined {s : State} (m : SampleSet) (hj : joined s.sc.station = true) :
    stuScan m { s with due := { s.due with stu := false } } =
      commitStu
        (match (scanned s m).state, givenBy m.rudder with
         | .following, some v => followStep s m v (scanned s m)
         | _, some v => { scanned s m with measured := some v, reqPort := 0, reqStbd := 0 }
         | _, none => { scanned s m with reqPort := 0, reqStbd := 0 })
        { s with due := { s.due with stu := false } } := by
  rw [← readingValue_eq_givenBy]
  exact if_pos hj

/-- Settles O35: a rudder that follows, with an angle, closes its loop. -/
theorem rudderFollows : Obligations.RudderFollows := by
  intro s m v hp hm hd hst hfollow hv
  have hj : joined s.sc.station = true := by obtain h | h := hst <;> rw [h] <;> rfl
  have hscan : scanned s m = { s.stu with latest := some m.rudder } := by
    have hsome : (readingValue m.rudder).isNone = false := by rw [readingValue_eq_givenBy, hv, Option.isNone_some]
    simp [scanned, scanTransition, hfollow, hsome]
  have hstu : stuScan m { s with due := { s.due with stu := false } } =
      commitStu (followStep s m v { s.stu with latest := some m.rudder })
        { s with due := { s.due with stu := false } } := by
    rw [stuScan_joined m hj, hscan, hv]
    simp only [hfollow]
  have hexec := exec_stuScan hp hm hd
  rw [hstu] at hexec
  have hloop := loopClosed_followStep (m := m) (v := v) (x' := s.stu) hst (x := { s.stu with latest := some m.rudder })
    (by rw [← hfollow])
  refine ⟨_, hexec, rfl, hloop, fun hhold => ?_, rfl, fun p hp => by cases p <;> simp_all [StatePart.same, commitStu_eq]⟩
  refine (congrArg Stu.angle hloop.1).trans ?_
  simp [hhold, commandAngle_zero]

/-- A rudder that does not follow keeps its state through a scan completion, its coils requested off and an angle stored. -/
theorem stuScan_still {s : State} {m : SampleSet} (hj : joined s.sc.station = true)
    (hst : (scanned s m).state ≠ .following) :
    (stuScan m { s with due := { s.due with stu := false } }).stu =
      { scanned s m with
        measured := (match givenBy m.rudder with | some v => some v | none => (scanned s m).measured)
        reqPort := 0, reqStbd := 0, responsive := false } := by
  rw [stuScan_joined m hj, commitStu_eq]
  have hrest : ((scanned s m).state == .following) = false := beq_eq_false_iff_ne.mpr hst
  split
  next hs hv => exact absurd hs hst
  next hv _ => simp only [hv, hrest, Bool.false_and]
  next hv => simp only [hv, hrest, Bool.false_and]

/-- The change of state that a scan completion brings, by the state, the angle and the sampled STEER_STOP (R69, R79, R80). -/
theorem scanned_cases (s : State) (m : SampleSet) :
    let x : Stu := { s.stu with latest := some m.rudder }
    (s.stu.state = .following ∨ s.stu.state = .resting → givenBy m.rudder = none → scanned s m = standIn .blind x)
      ∧ (s.stu.state = .resting → givenBy m.rudder ≠ none → scanned s m = x)
      ∧ (s.stu.state = .blind → givenBy m.rudder = none → scanned s m = x)
      ∧ (s.stu.state = .jammed → scanned s m = x)
      ∧ (s.stu.state = .stopped → m.steerStop = true → scanned s m = x)
      ∧ ((s.stu.state = .stopped ∧ m.steerStop = false) ∨ (s.stu.state = .blind ∧ givenBy m.rudder ≠ none) →
          scanned s m = settle s x) := by
  intro x
  simp only [← readingValue_eq_givenBy]
  refine ⟨?_, fun h hv => ?_, fun h hv => ?_, fun h => ?_, fun h hin => ?_, ?_⟩
  · rintro (h | h) hv <;> simp [scanned, scanTransition, h, hv, x]
  · simp [scanned, scanTransition, h, hv, x]
  · simp [scanned, scanTransition, h, hv, x]
  · simp [scanned, scanTransition, h, x]
  · simp [scanned, scanTransition, h, hin, x]
  · rintro (⟨h, hin⟩ | ⟨h, hv⟩)
    · simp [scanned, scanTransition, h, hin, x]
    · have hsome : (readingValue m.rudder).isSome = true := Option.isSome_iff_ne_none.mpr hv
      simp [scanned, scanTransition, h, hsome, x]

/-- Settles O36: the transition of the state, then the coils at rest, or the loop where settling gives FOLLOWING. -/
theorem rudderOtherStates : Obligations.RudderOtherStates := by
  unfold Obligations.RudderOtherStates
  intro s m hp hm hd
  obtain ⟨hblind, hresting, hstays, hjammed, hstopped, hsettle⟩ := scanned_cases s m
  refine ⟨_, exec_stuScan hp hm hd, by simp, (exec_onlyChanges (exec_stuScan hp hm hd)).mono (by decide), fun hst => ?_,
    fun hj => ⟨?_, fun h hv => ?_, fun h hv => ?_, fun h hv => ?_, fun h => ?_, fun h hin => ?_, fun h =>
      ⟨fun hin => ?_, fun hin hv => ?_, fun hin v hv => ⟨fun hrest => ?_, fun hrest => ?_⟩⟩⟩⟩
  · have hidle : stuScan m { s with due := { s.due with stu := false } } = { s with due := { s.due with stu := false } } :=
      if_neg (by obtain h | h := hst <;> simp [h, joined])
    rw [hidle]
    exact ⟨rfl, rfl⟩
  · rw [stuScan_joined m hj]
    rfl
  · have hscan := hblind h hv
    rw [stuScan_still hj (by rw [hscan]; nofun), hscan, hv] <;> rfl
  · have hscan := hresting h hv
    rw [stuScan_still hj (by rw [hscan]; simp [h]), hscan] <;> rfl
  · have hscan := hstays h hv
    rw [stuScan_still hj (by rw [hscan]; simp [h]), hscan] <;> rfl
  · have hscan := hjammed h
    rw [stuScan_still hj (by rw [hscan]; simp [h]), hscan] <;> rfl
  · have hscan := hstopped h hin
    rw [stuScan_still hj (by rw [hscan]; simp [h]), hscan] <;> rfl
  · have hscan := (hsettle h).trans (settle_stopped hj hin)
    rw [stuScan_still hj (by rw [hscan]; nofun), hscan] <;> rfl
  · have hscan := (hsettle h).trans (settle_blind hj hin rfl hv)
    rw [stuScan_still hj (by rw [hscan]; nofun), hscan, hv] <;> rfl
  · have hscan := (hsettle h).trans ((settle_angle hj hin rfl hv).1 hrest)
    rw [stuScan_still hj (by rw [hscan]; nofun), hscan] <;> rfl
  · have hscan := (hsettle h).trans ((settle_angle hj hin rfl hv).2 hrest)
    have hst : s.sc.station = .run ∨ s.sc.station = .hold := hrest.imp id And.left
    have hfollow : (scanned s m).state = .following := by rw [hscan]
    rw [stuScan_joined m hj, hv]
    simp only [hfollow]
    exact loopClosed_followStep hst hscan

end Sys2Proof.Machine
end

section
/-! PROOFS. Fuel: FAU's scan completion with the sounding table, LEG and the ACCOUNT timer (R111 to R129). -/

namespace Sys2Proof.Machine

open Sys2Proof

/-! ### FAU at a scan completion (R111 to R121) -/

theorem exec_fauScan {s : State} {m : SampleSet} (hp : s.powered = true) (hm : s.ssq.sample = some m)
    (hd : s.due.fau = true) :
    exec .fauScanCompletion s = .next (fauScan m { s with due := { s.due with fau := false } }) := by
  change execFauScanCompletion s = _
  simp [execFauScanCompletion, live, hp, hm, hd]

/-- The retention contents after the window of a scan completion (R112 to R116). -/
def windowed (m : SampleSet) (s : State) : Retained :=
  windowStep (cfg4 s) m.counts ((givenBy m.fuelTemp).map fun v => max (-20) (min 90 v)) s.fau.kept

theorem fuelTempOf_eq (r : Reading) : fuelTempOf r = (givenBy r).map fun v => max (-20) (min 90 v) := by
  rw [fuelTempOf, readingValue_eq_givenBy]
  rfl

theorem fauWindow_eq (m : SampleSet) (s : State) :
    (fauWindow m s).fau =
        { s.fau with
          kept := windowed m s
          check := if s.fau.kept.flags.saturated then s.fau.check else retentionCrc (windowed m s) }
      ∧ (fauWindow m s).tau =
          { s.tau with
            latched :=
              { s.tau.latched with
                accountSaturated :=
                  s.tau.latched.accountSaturated
                    || decide (s.fau.kept.flags.saturated = false ∧ (windowed m s).flags.saturated = true) } } := by
  cases hsat : s.fau.kept.flags.saturated with
  | true =>
    have hkept : windowed m s = s.fau.kept := windowStep_of_saturated _ _ _ hsat
    have hsame : fauWindow m s = s := if_pos hsat
    rw [hsame, hkept]
    simp
  | false =>
    have hstep : fauWindow m s = onLatched
        (fun l => { l with accountSaturated := l.accountSaturated || (windowed m s).flags.saturated })
        (setKept (windowed m s) s) := by
      rw [windowed, ← fuelTempOf_eq]
      exact if_neg (by simp [hsat])
    rw [hstep]
    simp [onLatched, setKept]

theorem fauCapture_eq (s : State) :
    (fauCapture s).fau =
      { s.fau with
        kept := if s.fau.kept.vOpen = none then { s.fau.kept with vOpen := s.fau.vNow } else s.fau.kept
        check := (fauCapture s).fau.check }
      ∧ (s.fau.check = retentionCrc s.fau.kept → (fauCapture s).fau.check = retentionCrc (fauCapture s).fau.kept) := by
  unfold fauCapture
  split
  next v hopen hnow => simp [setKept, hopen, hnow]
  next hnot =>
    refine ⟨?_, id⟩
    split
    next hopen =>
      have hnow : s.fau.vNow = none := by
        cases hv : s.fau.vNow with
        | none => rfl
        | some v => exact absurd hv (hnot v hopen)
      have hkept : { s.fau.kept with vOpen := s.fau.vNow } = s.fau.kept := by rw [hnow, ← hopen]
      rw [hkept]
    next => rfl

theorem fauCapture_tau (s : State) : (fauCapture s).tau = s.tau := by
  unfold fauCapture
  split <;> rfl

/-- The ring holds the newest 16 GOOD levels (R118). -/
theorem ringStep_good {r : Reading} {v : Int} {ring : List Nat} (hst : r.status = .good) (hv : r.value = some v)
    (hlen : ring.length ≤ 16) :
    ringStep r ring = (if ring.length < 16 then ring else ring.tail) ++ [v.toNat] := by
  have hdrop : ring.drop (ring.length - 15) = if ring.length < 16 then ring else ring.tail := by
    split
    · rw [show ring.length - 15 = 0 by omega, List.drop_zero]
    · rw [show ring.length - 15 = 1 by omega, List.drop_one]
  simp only [ringStep, hst, hv, hdrop]
  rfl

theorem tankReserve_iff (s : State) : tankReserve s = true ↔ ∃ v, s.fau.vNow = some v ∧ v < (cfg4 s).reserveL := by
  unfold tankReserve
  split
  next v hv => simp [hv]
  next hv => simp [hv]

/-! #### The sounding table (R119) -/

section
variable {c : P4} (hrise : ∀ i, i < 10 → c.volumes.getD i 0 ≤ c.volumes.getD (i + 1) 0)
include hrise

theorem volumes_mono {i j : Nat} (hij : i ≤ j) (hj : j ≤ 10) : c.volumes.getD i 0 ≤ c.volumes.getD j 0 := by
  induction j, hij using Nat.le_induction with
  | base => exact le_rfl
  | succ j _ ih => exact (ih (by omega)).trans (hrise j (by omega))

/-- Between two table points the sounding interpolates, and stays between them. -/
theorem sounding_between {i level : Nat} (hi : i < 10) (hlow : i * c.depth ≤ 10 * level)
    (hhigh : 10 * level < (i + 1) * c.depth) :
    sounding c level =
        c.volumes.getD i 0
          + (c.volumes.getD (i + 1) 0 - c.volumes.getD i 0) * (10 * level - i * c.depth) / c.depth
      ∧ c.volumes.getD i 0 ≤ sounding c level ∧ sounding c level ≤ c.volumes.getD (i + 1) 0 := by
  have hspan : (i + 1) * c.depth = i * c.depth + c.depth := Nat.succ_mul _ _
  have hdepth : 0 < c.depth := by omega
  have hlevel : level < c.depth := by
    have : (i + 1) * c.depth ≤ 10 * c.depth := Nat.mul_le_mul_right _ hi
    omega
  have hplace : 10 * level / c.depth = i := Nat.div_eq_of_lt_le hlow hhigh
  have hsound : sounding c level =
      c.volumes.getD i 0
        + (c.volumes.getD (i + 1) 0 - c.volumes.getD i 0) * (10 * level - i * c.depth) / c.depth := by
    rw [sounding, if_neg hlevel.not_ge]
    simp only [Nat.mul_comm level 10, hplace]
  have hpart : (c.volumes.getD (i + 1) 0 - c.volumes.getD i 0) * (10 * level - i * c.depth) / c.depth
      ≤ c.volumes.getD (i + 1) 0 - c.volumes.getD i 0 :=
    Nat.div_le_of_le_mul (by rw [Nat.mul_comm c.depth]; exact Nat.mul_le_mul_left _ (by omega))
  refine ⟨hsound, hsound ▸ Nat.le_add_right _ _, ?_⟩
  calc sounding c level
      ≤ c.volumes.getD i 0 + (c.volumes.getD (i + 1) 0 - c.volumes.getD i 0) := hsound ▸ Nat.add_le_add_left hpart _
    _ = c.volumes.getD (i + 1) 0 := Nat.add_sub_cancel' (hrise i hi)

theorem sounding_mono {level level' : Nat} (h : level ≤ level') : sounding c level ≤ sounding c level' := by
  have hplace {l : Nat} (hl : l < c.depth) : ∃ i, i < 10 ∧ i * c.depth ≤ 10 * l ∧ 10 * l < (i + 1) * c.depth :=
    ⟨10 * l / c.depth, Nat.div_lt_of_lt_mul (by omega), Nat.div_mul_le_self _ _,
      Nat.lt_mul_of_div_lt (Nat.lt_succ_self _) (by omega)⟩
  by_cases hfull : c.depth ≤ level'
  · have hend : sounding c level' = c.volumes.getD 10 0 := if_pos hfull
    by_cases hl : c.depth ≤ level
    · exact ((if_pos hl : sounding c level = _).trans hend.symm).le
    · obtain ⟨i, hi, hlow, hhigh⟩ := hplace (Nat.lt_of_not_le hl)
      exact ((sounding_between hrise hi hlow hhigh).2.2.trans (volumes_mono hrise hi le_rfl)).trans_eq hend.symm
  · obtain ⟨i, hi, hlow, hhigh⟩ := hplace (h.trans_lt (Nat.lt_of_not_le hfull))
    obtain ⟨j, hj, hlow', hhigh'⟩ := hplace (Nat.lt_of_not_le hfull)
    have hij : i ≤ j := by
      by_contra hji
      have : (j + 1) * c.depth ≤ i * c.depth := Nat.mul_le_mul_right _ (by omega)
      omega
    obtain ⟨hsound, -, hle⟩ := sounding_between hrise hi hlow hhigh
    obtain ⟨hsound', hge, -⟩ := sounding_between hrise hj hlow' hhigh'
    obtain rfl | hlt := hij.eq_or_lt
    · rw [hsound, hsound']
      gcongr
    · exact hle.trans ((volumes_mono hrise hlt hj.le).trans hge)

end

/-- Settles O46: the window, the ring and the capture in their order; then the sounding by its table interval. -/
theorem fuelScan : Obligations.FuelScan := by
  refine ⟨?_, fun c hrise => ⟨fun level h => if_pos h, fun i level hi hlow hhigh => sounding_between hrise hi hlow hhigh,
    fun level level' h => sounding_mono hrise h⟩⟩
  intro s m hp hm hd hring
  refine ⟨_, exec_fauScan hp hm hd, by simp, fun hst => ?_, fun hst => ?_, (exec_onlyChanges (exec_fauScan hp hm hd)).mono (by decide)⟩
  · have hidle : fauScan m { s with due := { s.due with fau := false } } = { s with due := { s.due with fau := false } } :=
      if_pos hst
    rw [hidle]
    exact ⟨rfl, rfl⟩
  · have hscan : fauScan m { s with due := { s.due with fau := false } } =
        fauCapture (fauLevel m (fauWindow m { s with due := { s.due with fau := false } })) := if_neg hst
    rw [hscan]
    obtain ⟨hwindow, htau⟩ := fauWindow_eq m { s with due := { s.due with fau := false } }
    have hcfg : cfg4 (fauWindow m { s with due := { s.due with fau := false } }) = cfg4 s := by simp [cfg4]
    have hlevel : (fauLevel m (fauWindow m { s with due := { s.due with fau := false } })).fau =
        { s.fau with
          kept := windowed m s
          check := if s.fau.kept.flags.saturated then s.fau.check else retentionCrc (windowed m s)
          ring := ringStep m.level s.fau.ring, level := filtered (ringStep m.level s.fau.ring)
          vNow := (filtered (ringStep m.level s.fau.ring)).map (sounding (cfg4 s)) } := by
      simp only [fauLevel, hwindow, hcfg]
      rfl
    obtain ⟨hfau, hcheck⟩ := fauCapture_eq (fauLevel m (fauWindow m { s with due := { s.due with fau := false } }))
    rw [hlevel] at hfau hcheck
    have hring' := congrArg Fau.ring hfau
    have hvNow := congrArg Fau.vNow hfau
    refine ⟨fun v hv hval => hring'.trans (ringStep_good hv hval hring), fun hsus => ?_, fun hbad => ?_, ?_, ?_, ?_,
      fun hsound => hcheck ?_, ?_, ?_, ?_, ?_⟩
    · refine hring'.trans ?_
      simp only [ringStep, hsus]
    · refine hring'.trans ?_
      obtain h | h := hbad <;> simp only [ringStep, h]
    · rw [hring']
      exact congrArg Fau.level hfau
    · exact hvNow.trans (congrArg (Option.map (sounding (cfg4 s))) (congrArg Fau.level hfau).symm)
    · rw [hvNow]
      exact congrArg Fau.kept hfau
    · split
      next hsat => rw [hsound, windowed, windowStep_of_saturated _ _ _ hsat]
      next => rfl
    · exact (congrArg Fau.recon hfau).trans rfl
    · exact (congrArg Fau.accountTimer hfau).trans rfl
    · exact (fauCapture_tau _).trans htau
    · refine (tankReserve_iff _).trans ?_
      rw [show cfg4 (fauCapture (fauLevel m (fauWindow m { s with due := { s.due with fau := false } }))) = cfg4 s by
        simp [cfg4]]

/-! ### LEG and the ACCOUNT timer (R122 to R124, R129) -/

/-- The state at the expiry of the ACCOUNT timer, the timer restarted. -/
def accountDue (e : Nat) (s : State) : State :=
  { reach e s with fau := { s.fau with accountTimer := some (e + 10000000) } }

theorem exec_accountTimerExpiry {s : State} {e : Nat} (hp : s.powered = true) (ht : s.fau.accountTimer = some e) :
    exec .accountTimerExpiry s = .next
      (if joined s.sc.station then queueCurrent (reconcile (accountDue e s)) else reconcile (accountDue e s)) := by
  change execAccountTimerExpiry s = _
  rw [execAccountTimerExpiry, live_expiry (·.fau.accountTimer) hp ht]
  rfl

theorem reconcile_absent {s : State} (h : s.fau.vNow = none ∨ s.fau.kept.vOpen = none) :
    reconcile s = { s with fau := { s.fau with recon := 0 } } := by
  unfold reconcile
  split
  next v o hv ho => obtain h | h := h <;> simp_all
  next => rfl

theorem reconcile_present {s : State} {v o : Nat} (hv : s.fau.vNow = some v) (ho : s.fau.kept.vOpen = some o) :
    reconcile s = evaluate v o s := by
  rw [reconcile, hv, ho]

/-- The third evaluation in a row beyond the tolerance raises the discrepancy and starts the count again (R123). -/
theorem reconStep_eq (beyond : Prop) [Decidable beyond] (n : Nat) :
    (reconStep (decide beyond) n).1 = (if beyond ∧ ¬ (beyond ∧ 2 ≤ n) then n + 1 else 0)
      ∧ (reconStep (decide beyond) n).2 = decide (beyond ∧ 2 ≤ n) := by
  unfold reconStep
  by_cases hb : beyond
  · by_cases hn : 2 ≤ n
    · simp [hb, hn]
    · simp [hb, hn]
  · simp [hb]

/-- An evaluation: the discrepancy, the count, and the event of FUEL_DISCREPANCY (R122, R123). -/
theorem evaluate_eq (v o : Nat) (s : State) {beyond : Prop} [Decidable beyond]
    (hb : toleranceOf (cfg4 s) s.fau.kept < (discrepancyOf s.fau.kept v o).natAbs ↔ beyond) :
    (evaluate v o s).fau =
        { s.fau with
          recon := if beyond ∧ ¬ (beyond ∧ 2 ≤ s.fau.recon) then s.fau.recon + 1 else 0
          kept :=
            { s.fau.kept with
              d := some (discrepancyOf s.fau.kept v o)
              flags :=
                { s.fau.kept.flags with
                  discrepancy := s.fau.kept.flags.discrepancy || decide (beyond ∧ 2 ≤ s.fau.recon) } }
          check := retentionCrc (evaluate v o s).fau.kept }
      ∧ (evaluate v o s).tau =
          { s.tau with
            latched :=
              { s.tau.latched with
                fuelDiscrepancy := s.tau.latched.fuelDiscrepancy || decide (beyond ∧ 2 ≤ s.fau.recon) } } := by
  obtain ⟨hcount, hthird⟩ := reconStep_eq beyond s.fau.recon
  simp only [evaluate, onLatched, setKept, decide_eq_decide.mpr hb, hcount, hthird]
  exact ⟨trivial, trivial⟩

/-- What the evaluation leaves of the leg for its ACCOUNT frame. -/
theorem reconcile_leg (s : State) :
    (reconcile s).fau.vNow = s.fau.vNow
      ∧ (reconcile s).fau.kept =
          { s.fau.kept with d := (reconcile s).fau.kept.d, flags := (reconcile s).fau.kept.flags }
      ∧ (reconcile s).tbi = s.tbi ∧ (reconcile s).sc = s.sc ∧ (reconcile s).now = s.now := by
  unfold reconcile
  split <;> exact ⟨rfl, rfl, rfl, rfl, rfl⟩

theorem currentAccount_reconcile (s : State) :
    currentAccount (reconcile s) =
      ⟨false, s.fau.kept.leg, Int.tdiv s.fau.kept.accC 100000, s.fau.kept.accF / 100000, s.fau.kept.vOpen, s.fau.vNow,
        (reconcile s).fau.kept.d, (reconcile s).fau.kept.flags⟩ := by
  obtain ⟨hv, hkept, -⟩ := reconcile_leg s
  rw [currentAccount, hv, hkept]
  rfl

theorem reconcile_timer (s : State) : (reconcile s).fau.accountTimer = s.fau.accountTimer := by
  unfold reconcile
  split <;> rfl

theorem queueCurrent_if (b : Bool) (u : State) :
    (if b then queueCurrent u else u).fau = u.fau ∧ (if b then queueCurrent u else u).tau = u.tau
      ∧ (if b then queueCurrent u else u).now = u.now
      ∧ (if b then queueCurrent u else u).tbi =
          if b then
            queueTbi .accountCurrent ⟨clsAccount, u.sc.number, putAccount (currentAccount u)⟩ (u.now + 10000000) u.tbi
          else u.tbi := by
  cases b <;> exact ⟨rfl, rfl, rfl, rfl⟩

/-- Settles O47: LEG against the open number; then the evaluation, and the frame while joined. -/
theorem legAndAccountTimer : Obligations.LegAndAccountTimer := by
  unfold Obligations.LegAndAccountTimer
  refine ⟨fun s f hadm hf hlen => ?_, fun s e hp ht => ?_⟩
  · have hexec := exec_admitted (c := .leg) hadm (beq_iff_eq.mpr hf)
    simp only [ownerOf, ownLeg] at hexec
    generalize BitVec.ofNat 16 (getU 2 0 f.payload) = n at hexec
    refine ⟨fun hn => hexec.trans (congrArg _ (if_pos hn)), fun hn hahead => ?_, fun hn hbehind => ?_⟩
    · have htake : takeLeg n (taken s) = closeLeg (decide (n ≠ s.fau.kept.leg + 1)) n (taken s) := by
        refine (if_neg hn).trans ((if_pos hahead).trans ?_)
        simp [bne, beq_eq_decide, taken, dequeue]
      rw [htake] at hexec
      exact ⟨_, hexec, legOpened_closeLeg _ _ hlen rfl rfl rfl rfl,
        ((taken_onlyChanges s).mono (by decide)).trans (closeLeg_onlyChanges _ _ _)⟩
    · exact hexec.trans (congrArg _ ((if_neg hn).trans (if_neg (ne_true_of_eq_false hbehind))))
  · have hexec := exec_accountTimerExpiry hp ht
    obtain ⟨hfau, htau, hnow, htbi⟩ := queueCurrent_if (joined s.sc.station) (reconcile (accountDue e s))
    obtain ⟨hvNow, hkept, hline, hsc, htime⟩ := reconcile_leg (accountDue e s)
    refine ⟨_, hexec, hnow.trans htime, ?_, fun hnone => ?_, fun v o hv ho => ?_, ?_,
      (exec_onlyChanges hexec).mono (by decide)⟩
    · rw [hfau]
      exact reconcile_timer _
    · rw [hfau, htau, reconcile_absent (s := accountDue e s) hnone]
      exact ⟨rfl, rfl⟩
    · rw [hfau, htau, reconcile_present (s := accountDue e s) hv ho]
      exact evaluate_eq v o (accountDue e s) Iff.rfl
    · rw [hfau]
      refine htbi.trans ?_
      split
      next hj =>
        rw [currentAccount_reconcile, hsc, htime, hline]
        rfl
      next hj => exact hline

end Sys2Proof.Machine
end

section
/-! PROOFS. The scan, the period boundary and the output lines (R151 to R173). -/

namespace Sys2Proof.Machine

open Sys2Proof

/-! ### The scan (R151 to R154, R160, R161) -/

theorem mem_allChannels (c : Channel) : c ∈ allChannels := by cases c <;> decide

theorem allChannels_ordered : allChannels.Pairwise fun c k => channelRank c < channelRank k := by decide

theorem channelRank_inj {c k : Channel} (h : channelRank c = channelRank k) : c = k := by
  cases c <;> cases k <;> first | rfl | cases h

/-- The channel that a scan goes on with is the first of R149's order that is fitted, from the place on. -/
theorem channelFrom_some {f : Fitted} {i : Nat} {c : Channel} (h : channelFrom f i = some c) :
    channelFitted f c = true ∧ i ≤ channelRank c
      ∧ ∀ k, channelFitted f k = true → i ≤ channelRank k → channelRank c ≤ channelRank k := by
  obtain ⟨hc, before, after, hlist, hbefore⟩ := List.find?_eq_some_iff_append.mp h
  simp only [Bool.and_eq_true, decide_eq_true_eq] at hc
  refine ⟨hc.1, hc.2, fun k hk hplace => ?_⟩
  have hmem : k ∈ before ++ c :: after := hlist ▸ mem_allChannels k
  have hordered : (before ++ c :: after).Pairwise fun c k => channelRank c < channelRank k := hlist ▸ allChannels_ordered
  rcases List.mem_append.mp hmem with hin | hin
  · simpa [hk, hplace] using hbefore k hin
  · rcases List.mem_cons.mp hin with rfl | hin
    · exact le_rfl
    · exact ((List.pairwise_cons.mp (List.pairwise_append.mp hordered).2.1).1 k hin).le

theorem channelFrom_none {f : Fitted} {i : Nat} (h : channelFrom f i = none) (c : Channel)
    (hc : channelFitted f c = true) : channelRank c < i := by
  have := List.find?_eq_none.mp h c (mem_allChannels c)
  simpa [hc] using this

theorem sampleSet_eq_deliveredSet (s : State) (pins : ScanPins) : sampleSet s pins = deliveredSet s pins := rfl

/-- The next fitted channel is converted, or the scan completes. -/
theorem scanGoesOn_convertFrom (i : Nat) (pins : ScanPins) (s : State) : scanGoesOn s (convertFrom i pins s) i pins := by
  unfold convertFrom
  split
  next c hc =>
    obtain ⟨hfit, hplace, hfirst⟩ := channelFrom_some hc
    refine ⟨fun k hk hkplace hkfirst => ?_, fun hdone => absurd (hdone c hfit) hplace.not_gt⟩
    rw [channelRank_inj (le_antisymm (hfirst k hk hkplace) (hkfirst c hfit hplace))]
  next hnone =>
    refine ⟨fun k hk hkplace _ => absurd (channelFrom_none hnone k hk) hkplace.not_gt, fun _ => ?_⟩
    rw [completeScan, sampleSet_eq_deliveredSet]
    rfl

theorem trigger_waiting (pins : ScanPins) {s : State} (h : s.ssq.scan = .waiting) :
    trigger pins s = convertFrom 0 pins (scanStart s) := by
  rw [trigger, h]

theorem trigger_overrun (pins : ScanPins) {s : State} (h : s.ssq.scan = .interrupted ∨ ∃ ch, s.ssq.scan = .busy ch) :
    trigger pins s = count .scanOverrun s := by
  obtain h | ⟨ch, h⟩ := h <;> rw [trigger, h]

/-- Settles O48: the trigger and the conversion ends by the scan state, and the counting of a pulse. -/
theorem sensingScan : Obligations.SensingScan := by
  intro s pins hp
  refine ⟨fun d ht => ⟨fun hst => ⟨_, ?_, scanGoesOn_convertFrom _ _ _⟩, fun hst => ?_⟩, fun ch raw hst =>
    ⟨_, ?_, scanGoesOn_convertFrom _ _ _⟩, fun hst => ?_, fun i => ⟨fun hfit hclear => ?_, fun hnot => ?_⟩⟩
  · change execScanTrigger pins s = _
    rw [execScanTrigger, live_expiry (·.ssq.controlTimer) hp ht]
    exact congrArg Host.Outcome.next (trigger_waiting pins hst)
  · change execScanTrigger pins s = _
    rw [execScanTrigger, live_expiry (·.ssq.controlTimer) hp ht]
    exact congrArg Host.Outcome.next (trigger_overrun pins hst)
  · change execConversionEnd raw pins s = _
    rw [execConversionEnd, live_of_powered hp, hst]
  · change execInterruptedConversionEnd s = _
    rw [execInterruptedConversionEnd, live_of_powered hp, hst]
    cases s.ssq.controlTimer <;> rfl
  · change execPulseEdge i s = _
    rw [execPulseEdge, live_of_powered hp, if_pos (by simp [hfit, hclear])]
    cases i <;> rfl
  · change execPulseEdge i s = _
    rw [execPulseEdge, live_of_powered hp, if_neg (by obtain h | h := hnot <;> simp [h])]

/-! ### The period boundary and the output lines (R163 to R173) -/

theorem sideRequest_eq_askedSide (r1 r2 : Nat) : sideRequest r1 r2 = askedSide r1 r2 := by
  unfold sideRequest askedSide
  split_ifs <;> first | rfl | omega

theorem driveSide_eq_drivenPair (p : Pair) (a : Side) (d : Nat) : driveSide a d p = drivenPair p a d := by
  cases a <;> rfl

theorem pairAtBoundary_boundaryPair {dead : Nat} {req asked : Option (Side × Nat)} {p : Pair} (h : req = asked) :
    pairAtBoundary dead asked p (boundaryPair dead req p) := by
  subst h
  refine ⟨fun a ha => ⟨fun hasked => ?_, fun b d hasked hb => ?_, fun d hasked => ?_⟩, fun ha =>
    ⟨fun hasked => ?_, fun b d hasked hfree => ?_, fun b d a e hasked hdead hlast hb => ?_⟩⟩
  all_goals simp only [boundaryPair, ha, hasked]
  · rfl
  · exact if_neg (Ne.symm hb)
  · exact (if_pos trivial).trans (driveSide_eq_drivenPair p a d)
  · refine (if_pos ?_).trans (driveSide_eq_drivenPair p b d)
    obtain h | h | h := hfree
    · exact .inr (.inr h)
    · exact .inr (.inl h)
    · exact .inl h
  · refine if_neg ?_
    rw [hlast, hdead]
    rintro (h | h | h)
    · cases h
    · exact hb (Option.some.inj h)
    · cases h

theorem boundaryBrake_eq (b : Brake) (q : Pair) : boundaryBrake q b = brakeAtBoundary b q := by
  have hoff : (activeSide q).isNone = true ↔ q.app1 = 0 ∧ q.app2 = 0 := by
    rw [Option.isNone_iff_eq_none, activeSide_eq_none]
  simp only [boundaryBrake, brakeAtBoundary, Bool.and_eq_true, hoff]

theorem rudderRequest_eq (s : State) :
    rudderRequest s =
      if s.dch.restHold = false ∧ s.sc.fitted.rudder = true ∧ s.pins.steerStop = false then
        askedSide (if s.pins.portLim then 0 else s.dch.rud.req1) (if s.pins.stbdLim then 0 else s.dch.rud.req2)
      else none := by
  rw [rudderRequest, sideRequest_eq_askedSide]
  cases s.dch.restHold <;> cases s.sc.fitted.rudder <;> cases s.pins.steerStop <;> rfl

theorem winchRequest_eq (s : State) (w : WinchId) :
    winchRequest s w =
      if s.dch.restHold = false ∧ winchFitted s.sc.fitted w = true ∧ (brakeOf s.dch w).line = true
          ∧ (brakeOf s.dch w).pending = false then
        askedSide (pairOf s.dch (winchPair w)).req1 (pairOf s.dch (winchPair w)).req2
      else none := by
  simp only [winchRequest, sideRequest_eq_askedSide, Bool.or_eq_true, Bool.not_eq_true', or_assoc]
  by_cases h : s.dch.restHold = false ∧ winchFitted s.sc.fitted w = true ∧ (brakeOf s.dch w).line = true
      ∧ (brakeOf s.dch w).pending = false
  · rw [if_pos h, if_neg (by simp [h])]
  · rw [if_neg h, if_pos (by grind)]

theorem boundaryGov_eq (s : State) :
    boundaryGov s = if s.dch.restHold = false ∧ s.sc.fitted.engine = true then s.dch.gov.req else 0 := by
  rw [boundaryGov]
  cases s.dch.restHold <;> cases s.sc.fitted.engine <;> rfl

/-- Settles O50: DCH's record after a boundary, pair by pair; then each output line by its definition. -/
theorem periodBoundary : Obligations.PeriodBoundary := by
  unfold Obligations.PeriodBoundary
  refine ⟨fun s hp => ⟨?_, fun i e he => ?_, fun x => ⟨fun h0 => ?_, fun hfull => ?_, fun b k hb hk hlt => ?_⟩⟩, fun s =>
    ⟨?_, ?_, fun w => ?_, ?_, ?_⟩⟩
  · have hexec : exec .periodBoundary s = .next
        { reach s.dch.boundaryAt s with dch := boundaryDch s.dch.boundaryAt (reach s.dch.boundaryAt s) } := by
      change execPeriodBoundary s = _
      rw [execPeriodBoundary, live_of_powered hp]
      rfl
    refine ⟨_, hexec, rfl, rfl, ?_, ?_, ?_, ?_, boundaryBrake_eq _ _, boundaryBrake_eq _ _, rfl, rfl, rfl, rfl,
      (exec_onlyChanges hexec).mono (by decide)⟩
    · exact congrArg (fun app => ({ s.dch.gov with app := app } : Gov)) (boundaryGov_eq s)
    · exact pairAtBoundary_boundaryPair (rudderRequest_eq s)
    · exact pairAtBoundary_boundaryPair (winchRequest_eq s .a)
    · exact pairAtBoundary_boundaryPair (winchRequest_eq s .b)
  · change execDeadTimeExpiry i s = _
    rw [execDeadTimeExpiry, live_expiry (fun s => (pairOf s.dch i).dead) hp he]
    rfl
  · have hoff : appliedDuty s.dch x = 0 := Eq.trans (by cases x <;> rfl) h0
    exact decide_eq_false (by omega)
  · have hon : 1000 ≤ appliedDuty s.dch x := hfull.trans_eq (by cases x <;> rfl)
    exact decide_eq_true ((pwmPhase_lt s).trans_le hon)
  · have hphase : pwmPhase s = k := by
      rw [pwmPhase, hb, hk]
      omega
    rw [outPwm, decide_eq_true_iff, hphase]
    cases x <;> exact Iff.rfl
  · simp [outGearAh, and_assoc]
  · simp [outGearAs, and_assoc]
  · cases w <;> simp [outBrake, winchFitted, brakeOf, and_assoc]
  · simp [outLamp, and_assoc]
  · simp [outFault]

end Sys2Proof.Machine
end

section
/-! PROOFS. The resets and the supply (R133 to R135, R195, R204). -/

namespace Sys2Proof.Machine

open Sys2Proof

/-! ### Resets and supply (R133 to R135, R195, R204) -/

theorem listenReport_eq (stn : Station) (now : Nat) : listenReport stn now = listenReportAt stn now := by
  simp only [listenReport, listenReportAt, validStation, decide_eq_true_eq, ms]
  split
  · congr 2
    omega
  · rfl

/-- The units at their reset values, over any record of SC, FAU's own values, and a scan state (R204). -/
theorem unitsAtReset_resetUnits (c : Sc) (f : Fau) (l : Latched) (scan : ScanState) (now : Nat) (s : State) :
    unitsAtReset c.number c.fitted (resetUnits c f { tauReset with latched := l } (ssqReset scan) now s) := by
  refine ⟨rfl, peer_ptReset rfl, rfl, rfl, rfl, rfl, rfl, rfl, rfl, rfl, rfl, rfl, rfl, rfl, rfl, rfl, rfl,
    fun w => by cases w <;> rfl, rfl, rfl, rfl, rfl, rfl, ⟨rfl, rfl, rfl, fun ch => by cases ch <;> rfl, rfl⟩, rfl,
    fun i => by cases i <;> rfl, fun w => by cases w <;> rfl, rfl, rfl, rfl, rfl⟩

theorem fauPor_kept {engine : Bool} {f : Fau} (h : engine = false ∨ f.check = retentionCrc f.kept) :
    fauPor engine f = fauReset f.kept f.check ∧ tauPor engine f = tauReset := by
  have hgood : (engine && !retentionGood f) = false := by obtain h | h := h <;> simp [retentionGood, h]
  rw [fauPor, tauPor, hgood]
  exact ⟨rfl, rfl⟩

theorem fauPor_cleared {engine : Bool} {f : Fau} (he : engine = true) (h : f.check ≠ retentionCrc f.kept) :
    fauPor engine f = fauReset keptCleared (retentionCrc keptCleared)
      ∧ tauPor engine f = { tauReset with latched := { latchedNone with accountRestarted := true } } := by
  have hbad : (engine && !retentionGood f) = true := by simp [retentionGood, he, h]
  rw [fauPor, tauPor, hbad]
  exact ⟨rfl, rfl⟩

/-- Settles O3: the reset of the units, and the retention test. -/
theorem powerOnReset : Obligations.PowerOnReset := by
  intro stn fit s
  refine ⟨_, exec_powerOnReset stn fit s, rfl, rfl, unitsAtReset_resetUnits _ _ _ _ _ _, ?_, rfl, ?_, fun h => ?_,
    fun he h => ?_, rfl, rfl⟩
  · have hvolatile : ∃ k w, fauPor fit.engine s.fau = fauReset k w := by
      rw [fauPor]
      split <;> exact ⟨_, _, rfl⟩
    obtain ⟨k, w, hfau⟩ := hvolatile
    have : (powerOnUnits stn fit s).fau = fauReset k w := hfau
    rw [fuelVolatileAtReset, this]
    exact ⟨rfl, rfl, rfl, rfl, rfl⟩
  · rw [← listenReport_eq]
    rfl
  · obtain ⟨hfau, htau⟩ := fauPor_kept h
    have hf : (powerOnUnits stn fit s).fau = fauReset s.fau.kept s.fau.check := hfau
    have ht : (powerOnUnits stn fit s).tau = tauReset := htau
    rw [hf, ht]
    exact ⟨rfl, rfl, rfl⟩
  · obtain ⟨hfau, htau⟩ := fauPor_cleared he h
    have hf : (powerOnUnits stn fit s).fau = fauReset keptCleared (retentionCrc keptCleared) := hfau
    have ht : (powerOnUnits stn fit s).tau = { tauReset with latched := { latchedNone with accountRestarted := true } } := htau
    rw [hf, ht]
    exact ⟨rfl, rfl, rfl⟩

theorem setComplete_iff (c : Sc) : setComplete c = true ↔ recordComplete c.fitted c := by
  simp [setComplete, recordComplete, blockRequired, blockPresent]
  grind

theorem joinsAtOnce_iff (stn : Station) (fit : Fitted) (s : State) :
    joinsAtOnce (lineResetUnits stn fit s).sc = true
      ↔ s.sc.lock = true ∧ validStation stn = true ∧ recordComplete fit s.sc := by
  simp only [joinsAtOnce, Bool.and_eq_true, setComplete_iff, and_assoc]
  rfl

theorem scanLineReset_eq (x : ScanState) :
    scanLineReset x = (match x with | .busy _ | .interrupted => .interrupted | .stopped | .waiting => .stopped) := by
  cases x <;> rfl

/-- Settles O4: the units' reset, with no entry to JOINING. -/
theorem lineResetListens : Obligations.LineResetListens := by
  intro stn fit s hp hstay
  have hexec : exec (.lineReset stn fit) s = .next (lineResetUnits stn fit s) := by
    rw [exec_lineReset, live_of_powered hp, if_neg fun h => hstay ((joinsAtOnce_iff stn fit s).mp h)]
  refine ⟨_, hexec, unitsAtReset_resetUnits _ _ _ _ _ _, ⟨rfl, rfl, rfl, rfl, rfl⟩, rfl, rfl, rfl, ?_, ?_, fun p hp => ?_⟩
  · rw [← listenReport_eq]
    rfl
  · exact scanLineReset_eq _
  · cases p <;> simp_all [StatePart.same, lineResetUnits, resetUnits]

theorem losesRetention_iff (s : State) (updating vbak : Bool) :
    losesRetention s updating vbak = true
      ↔ vbak = false ∨ (updating = true ∧ s.powered = true ∧ s.sc.fitted.engine = true) := by
  simp [losesRetention, and_assoc]

/-- A lost retention domain has a check word that does not match it. -/
theorem loseRetention_check (s : State) :
    (loseRetention s).fau.check ≠ retentionCrc (loseRetention s).fau.kept := by
  intro h
  have hmask : retentionCrc (Config.lostContents s.freeSeq)
      ^^^ (if Config.tornMask s.freeSeq = 0 then 1 else Config.tornMask s.freeSeq)
      = retentionCrc (Config.lostContents s.freeSeq) := h
  have hzero : (if Config.tornMask s.freeSeq = 0 then 1 else Config.tornMask s.freeSeq) = 0 := by
    simpa using congrArg (retentionCrc (Config.lostContents s.freeSeq) ^^^ ·) hmask
  split at hzero
  · exact absurd hzero (by decide)
  next hne => exact hne hzero

/-- Settles O6: the outputs at rest, and a domain that is lost exactly where the check word no longer matches. -/
theorem supplyFailureLosesOrKeepsRetention : Obligations.SupplyFailureLosesOrKeepsRetention := by
  intro updating vbak s
  refine ⟨_, exec_supplyFailure updating vbak s, rfl, ?_, rfl, rfl, fun hkeep => ?_, fun hlose => ?_,
    (exec_onlyChanges (exec_supplyFailure updating vbak s)).mono fun p hp => by simpa [changedBy] using hp⟩
  · exact ⟨rfl, rfl, rfl, rfl, rfl, rfl, rfl, rfl, rfl, rfl, rfl, rfl, fun w => by cases w <;> rfl⟩
  · simp [hkeep]
  · have hlost : losesRetention s updating vbak = true := (losesRetention_iff s updating vbak).mpr hlose
    have hcheck := loseRetention_check s
    simp only [hlost, if_true]
    refine ⟨hcheck, fun stn fit he => ⟨_, exec_powerOnReset stn fit _, ?_⟩⟩
    obtain ⟨hfau, htau⟩ := fauPor_cleared he hcheck
    exact ⟨congrArg Fau.kept hfau, congrArg Fau.check hfau, congrArg (fun t => t.latched.accountRestarted) htau⟩

end Sys2Proof.Machine
end

section
/-! PROOFS. The changes of station state, a line reset that joins, and COMMISSION (R194 to R202, R210). -/

namespace Sys2Proof.Machine

open Sys2Proof

/-! ### Changes of station state (R43, R69, R82, R83, R196, R197) -/

theorem fullReport_eq (s : State) : fullReport s = stationReport s := by
  simp only [fullReport, stationReport, offeredPower, winchFitted, winchRec, ownWinchPart]
  cases s.stu.measured <;> rfl

/-- A STATUS queued in JOINING, RUN and HOLD is a full one, for one own period (R178, R197). -/
theorem queueStatus_eq {s : State} (h : s.sc.station ≠ .listen) :
    queueStatus s =
      { s with
        tbi :=
          queueTbi .status ⟨clsStatus, s.sc.number, putFullStatus (stationReport s)⟩ (s.now + 100000 * (cfg1 s).period)
            s.tbi } := by
  have hlife : ms (statusPeriod s) = 100000 * (cfg1 s).period := by
    rw [statusPeriod, if_neg h, ms]
    omega
  rw [queueStatus, queueFrame, hlife, statusPayload, if_neg h, fullReport_eq]

theorem queueStatus_statusQueued {s : State} (h : s.sc.station ≠ .listen) :
    statusQueued s.tbi (queueStatus s) s.now := congrArg State.tbi (queueStatus_eq h)

theorem queueStatus_onlyChanges (s : State) : onlyChanges [.tbi] s (queueStatus s) :=
  fun p hp => by cases p <;> simp_all [StatePart.same, queueStatus, queueFrame]

theorem govDuty_of_joined {st : StationState} (h : joined st = true) (c : P1) (sp : Int) :
    govDuty c st sp = if st = .run ∨ st = .hold then governorDuty c sp else c.idleDuty := by
  by_cases hw : working st = true
  · rw [govDuty_eq_governorDuty hw, if_pos (by simpa [working] using hw)]
  · cases st <;> simp_all [working, joined, govDuty]

theorem derateOf_eq (st : StationState) (cond : EngineCond) (reserve : Bool) :
    derateOf st cond reserve = if st = .run ∨ st = .hold then workingDerate cond reserve else 0 := by
  cases st <;> rfl

/-- TSU takes a change of station state: derate, A_own, the cut and the governor's duty (R43, R52, R53). -/
theorem tsuChange_thrustAtChange {s : State} (hj : joined s.sc.station = true) : thrustAtChange s (tsuChange s) := by
  refine ⟨fun hf => ?_, fun hf => ?_⟩ <;> simp only [tsuChange, hf, if_true, Bool.false_eq_true, if_false]
  simp only [commitTsu, dutyStep, powerStep, derateOf_eq, govDuty_of_joined hj, cutSp, clampInt]

theorem stuChange_idle {s : State} (h : s.sc.fitted.rudder = false) : stuChange s = s := by
  rw [stuChange, if_neg (ne_true_of_eq_false h)]

theorem stuChange_fitted {s : State} (h : s.sc.fitted.rudder = true) :
    (stuChange s).stu = (commitStu (changeStu s s.stu) s).stu ∧ (stuChange s).dch = (commitStu (changeStu s s.stu) s).dch := by
  rw [stuChange, if_pos h]
  exact ⟨rfl, rfl⟩

theorem changeStu_free {s : State} {x : Stu} (h : x.state = .resting ∨ x.state = .following ∨ x.state = .blind) :
    changeStu s x = settle s x := by
  obtain h | h | h := h <;> simp only [changeStu, h]

theorem changeStu_bound {s : State} {x : Stu} (h : ¬ (x.state = .resting ∨ x.state = .following ∨ x.state = .blind)) :
    changeStu s x = x := by
  unfold changeStu
  split <;> simp_all

/-- A rudder that settles elsewhere than in FOLLOWING asks for no duty and has no jam watch (R69). -/
theorem settle_atRest {s : State} {x : Stu} (h : (settle s x).state ≠ .following) :
    (settle s x).reqPort = 0 ∧ (settle s x).reqStbd = 0 ∧ (settle s x).jam = none := by
  unfold settle at h ⊢
  split
  next heq => rw [heq] at h; exact absurd rfl h
  · exact ⟨rfl, rfl, rfl⟩

theorem settle_state (s : State) (x : Stu) : (settle s x).state = settledState s x.latest := by
  unfold settle
  split
  next h => exact h.symm
  · rfl

/-- With an angle, or with no sample set taken yet, a rudder settles by the station state (R69, R82, R83). -/
theorem settledState_sighted {s : State} {l : Option Reading} (hj : joined s.sc.station = true)
    (hin : s.pins.steerStop = false) (hr : ∀ r, l = some r → givenBy r ≠ none) :
    settledState s l =
      if s.sc.station = .run then .following
      else if s.sc.station = .hold then (if (cfg2 s).rest = .centre then .following else .resting)
      else .resting := by
  have hst : ¬ (s.sc.station = .listen ∨ s.sc.station = .safe) := by
    rintro (h | h) <;> simp [h, joined] at hj
  have hany : l.any (fun r => (readingValue r).isNone) = false := by
    rw [Option.any_eq_false]
    exact fun r hmem => Bool.eq_false_iff.mpr fun hnone => hr r hmem ((readingValue_isNone_iff r).mp hnone)
  have hrest : (match (cfg2 s).rest with | .centre => RudderState.following | .holdPosition => .resting)
      = if (cfg2 s).rest = .centre then .following else .resting := by
    cases (cfg2 s).rest <;> rfl
  rw [settledState, if_neg hst, hin, hany, ← hrest]
  rfl

theorem settle_sighted {s : State} {x : Stu} (hj : joined s.sc.station = true) (hin : s.pins.steerStop = false)
    (hr : ∀ r, x.latest = some r → givenBy r ≠ none) :
    (settle s x).state =
      if s.sc.station = .run then .following
      else if s.sc.station = .hold then (if (cfg2 s).rest = .centre then .following else .resting)
      else .resting := by
  rw [settle_state, settledState_sighted hj hin hr]

/-- STU takes a change of station state: RESTING, FOLLOWING and BLIND settle, the other states stay (R69, R82, R83). -/
theorem stuChange_rudderAtChange {s : State} (hj : joined s.sc.station = true) : rudderAtChange s (stuChange s) := by
  refine ⟨fun hf => by rw [stuChange_idle hf], fun hf => ?_⟩
  have hstation : (stuChange s).sc = s.sc := by simp
  have hstu := (stuChange_fitted hf).1
  rw [commitStu_eq] at hstu
  have hstate : (stuChange s).stu.state = (changeStu s s.stu).state := by rw [hstu]
  refine ⟨fun hb => by rw [hstate, changeStu_bound hb], fun hfree hin => ?_, fun hfree hin hblind => ?_,
    fun hfree hin hs hst => ?_, fun hfree hin hs hst => ?_, fun hfree hin hs hst => ?_, ?_, fun hfree hne => ?_⟩
  · rw [hstate, changeStu_free hfree, settle_stopped hj hin]
    rfl
  · obtain ⟨r, hr, hnone⟩ : ∃ r, s.stu.latest = some r ∧ givenBy r = none := by
      simpa only [not_forall, ne_eq, not_not, exists_prop] using hblind
    rw [hstate, changeStu_free hfree, settle_blind hj hin hr hnone]
    rfl
  · rw [hstation] at hst
    rw [hstate, changeStu_free hfree, settle_sighted hj hin hs, if_pos hst]
  · rw [hstation] at hst
    rw [hstate, changeStu_free hfree, settle_sighted hj hin hs, if_neg (by simp [hst]), if_pos hst]
  · rw [hstation] at hst
    rw [hstate, changeStu_free hfree, settle_sighted hj hin hs, if_neg (by simp [hst]), if_neg (by simp [hst])]
  · rw [hstation, hstu]
    simp [beq_eq_decide]
  · rw [hstate, changeStu_free hfree] at hne
    rw [hstu, changeStu_free hfree]
    exact settle_atRest hne

/-- The two units' requests at a change of station state. -/
theorem change_requests (s : State) : requestsAtChange s (stuChange (tsuChange s)) := by
  have htsu : (tsuChange s).dch =
      { s.dch with
        gov := if s.sc.fitted.engine then { s.dch.gov with req := min 1000 (tsuChange s).tsu.dutyReq } else s.dch.gov
        gearReq := if s.sc.fitted.engine then outputOf (tsuChange s).tsu.gear else s.dch.gearReq } := by
    by_cases hf : s.sc.fitted.engine = true
    · simp only [tsuChange, hf, if_true]
      exact commitTsu_thrustRequests _ s
    · rw [tsuChange, if_neg hf, if_neg hf, if_neg hf]
  have hstu (u : State) : (stuChange u).dch =
      { u.dch with
        rud := if u.sc.fitted.rudder then
            { u.dch.rud with req1 := min 1000 (stuChange u).stu.reqPort, req2 := min 1000 (stuChange u).stu.reqStbd }
          else u.dch.rud } := by
    by_cases hf : u.sc.fitted.rudder = true
    · obtain ⟨hs, hd⟩ := stuChange_fitted hf
      rw [hd, hs, if_pos hf]
      rfl
    · rw [Bool.not_eq_true] at hf
      rw [stuChange_idle hf, if_neg (by simp [hf])]
  have hsc : (tsuChange s).sc = s.sc := by simp
  have hkeep : (stuChange (tsuChange s)).tsu = (tsuChange s).tsu := by simp
  rw [requestsAtChange, hstu, htsu, hsc, hkeep]

theorem rudderAtChange_congr {s u t : State} (hsc : u.sc = s.sc) (hstu : u.stu = s.stu) (hpins : u.pins = s.pins)
    (h : rudderAtChange u t) : rudderAtChange s t := by
  have hcfg : cfg2 u = cfg2 s := by rw [cfg2, hsc, cfg2]
  unfold rudderAtChange at h ⊢
  rw [hcfg, hsc, hstu, hpins] at h
  exact h

/-- The change at TSU and STU, outside an entry to JOINING. -/
theorem change_effects {s : State} (hj : joined s.sc.station = true) (hjoin : s.sc.station ≠ .joining) :
    thrustAtChange s (stuChange (tsuChange s)) ∧ rudderAtChange s (stuChange (tsuChange s))
      ∧ requestsAtChange s (stuChange (tsuChange s)) ∧ onlyChanges [.tsu, .stu, .dch] s (stuChange (tsuChange s)) := by
  have hthrust : thrustAtChange s (stuChange (tsuChange s)) := by
    have hkeep : (stuChange (tsuChange s)).tsu = (tsuChange s).tsu := by simp
    have hsc : (stuChange (tsuChange s)).sc = (tsuChange s).sc := by simp
    simpa only [thrustAtChange, hkeep, hsc] using tsuChange_thrustAtChange hj
  have hrudder := stuChange_rudderAtChange (s := tsuChange s) (by simpa using hj)
  have htau : (stuChange (tsuChange s)).tau = s.tau := by
    have hno : (s.sc.station == .joining) = false := by simpa using hjoin
    have hstay (u : State) (hu : (u.sc.station == .joining) = false) : (stuChange u).tau = u.tau := by
      unfold stuChange
      split <;> simp [onLatched, commitStu, hu]
    rw [hstay _ (by simpa using hno)]
    simp
  exact ⟨hthrust, rudderAtChange_congr (by simp) (by simp) (by simp) hrudder, change_requests s,
    fun p hp => by cases p <;> simp_all [StatePart.same]⟩

/-- A change to RUN or HOLD with its STATUS, from the state `u` that the frame or the timer leaves (R196, R202). -/
theorem stationEntry {u : State} {st : StationState} (hj : st = .run ∨ st = .hold) :
    let t := queueStatus (stuChange (tsuChange (setStation st u)))
    t.sc = { u.sc with station := st } ∧ thrustAtChange u t ∧ rudderAtChange u t ∧ requestsAtChange u t
      ∧ statusQueued u.tbi t u.now ∧ onlyChanges [.sc, .tbi, .tsu, .stu, .dch] u t := by
  have hset : joined (setStation st u).sc.station = true := by obtain rfl | rfl := hj <;> rfl
  obtain ⟨hthrust, hrudder, hrequests, honly⟩ := change_effects hset (by obtain rfl | rfl := hj <;> nofun)
  have hsc : (stuChange (tsuChange (setStation st u))).sc = { u.sc with station := st } := honly .sc (by decide)
  have htbi : (stuChange (tsuChange (setStation st u))).tbi = u.tbi := honly .tbi (by decide)
  have hnow : (stuChange (tsuChange (setStation st u))).now = u.now := honly .now (by decide)
  have hstatus := queueStatus_statusQueued (s := stuChange (tsuChange (setStation st u)))
    (by rw [hsc]; obtain rfl | rfl := hj <;> nofun)
  rw [htbi, hnow] at hstatus
  have hsetOnly : onlyChanges [.sc] u (setStation st u) := fun p hp => by cases p <;> simp_all [StatePart.same, setStation]
  exact ⟨hsc, hthrust, hrudder, hrequests, hstatus,
    ((hsetOnly.mono (by decide)).trans (honly.mono (by decide))).trans ((queueStatus_onlyChanges _).mono (by decide))⟩

/-! ### Hold, release, report and join (R196 to R198, R202) -/

theorem addressed_iff (s : State) (n : Nat) : addressed s n = true ↔ n = s.sc.number.toNat ∨ n = 255 := by
  simp [addressed, targetAll]

/-- A STATUS queued in any station state but SAFE, with its payload and its lifetime (R197). -/
theorem queueStatus_tbi (s : State) :
    (queueStatus s).tbi =
      queueTbi .status
        ⟨clsStatus, s.sc.number,
          if s.sc.station = .listen then
            putShortStatus s.sc.fitted
              ⟨acceptedMask s.sc, s.sc.lastRefusal.bind (·.block), s.sc.lastRefusal.map (·.reason)⟩
          else putFullStatus (stationReport s)⟩
        (s.now + (if s.sc.station = .listen then 1000000 else 100000 * (cfg1 s).period)) s.tbi := by
  by_cases h : s.sc.station = .listen
  · rw [if_pos h, if_pos h, queueStatus, queueFrame, statusPeriod, if_pos h, statusPayload, if_pos h]
    rfl
  · rw [queueStatus_eq h, if_neg h, if_neg h]

theorem queueStatus_frameOnly (s : State) : queueStatus s = { s with tbi := (queueStatus s).tbi } := rfl

theorem statusPeriod_eq (s : State) :
    ms (statusPeriod s) = if s.sc.station = .listen then 1000000 else 100000 * (cfg1 s).period := by
  rw [statusPeriod]
  split
  · rfl
  · rw [ms]
    omega

theorem exec_reportTimer {s : State} {d : Nat} (hp : s.powered = true) (ht : s.sc.reportTimer = some d) :
    exec .reportTimerExpiry s =
      .next (queueStatus (onSc (fun c => { c with reportTimer := some (d + ms (statusPeriod s)) }) (reach d s))) := by
  change execReportTimerExpiry s = _
  rw [execReportTimerExpiry, live_expiry (·.sc.reportTimer) hp ht]
  rfl

theorem exec_joinTimer {s : State} {d : Nat} (hp : s.powered = true) (ht : s.sc.joinTimer = some d) :
    exec .joinTimerExpiry s = .next (enterRun (onSc (fun c => { c with joinTimer := none }) (reach d s))) := by
  change execJoinTimerExpiry s = _
  rw [execJoinTimerExpiry, live_expiry (·.sc.joinTimer) hp ht]

/-- A winch at the entry to RUN settles by its latest tension, or goes BLIND without one (R90). -/
theorem winchRun_joins (w : WinchId) (s : State) : winchJoins s (winchRun w s) w := by
  refine ⟨fun hf => if_neg (ne_true_of_eq_false hf), fun hf => ⟨fun v hv => ?_, fun hnone => ?_⟩⟩ <;>
    rw [← funext readingValue_eq_givenBy] at *
  · have hrun : winchRun w s = enterWinch w (settledWinch s v) false s := by
      simp only [winchRun, if_pos hf]
      rw [hv]
    rw [hrun]
    exact winchEnters_enterWinch _ (winchKeeps_refl s w)
  · have hrun : winchRun w s = finishOp w .blind false s := by
      simp only [winchRun, if_pos hf]
      rw [hnone]
    rw [hrun]
    exact winchEnds_finishOp _ _ (winchKeeps_refl s w)

/-- The entry to RUN from JOINING: the change at TSU and STU, then winch A, then winch B, then the STATUS. -/
theorem enterRun_effects (s : State) :
    let u := stuChange (tsuChange (setStation .run s))
    let w := winchRun .b (winchRun .a u)
    thrustAtChange s u ∧ rudderAtChange s u ∧ requestsAtChange s u ∧ onlyChanges [.sc, .tsu, .stu, .dch] s u
      ∧ statusQueued w.tbi (enterRun s) s.now ∧ enterRun s = { w with tbi := (enterRun s).tbi } := by
  intro u w
  obtain ⟨hthrust, hrudder, hrequests, honly⟩ := change_effects (s := setStation .run s) rfl nofun
  have hset : onlyChanges [.sc] s (setStation .run s) := fun p hp => by cases p <;> simp_all [StatePart.same, setStation]
  have hw : w.sc = { s.sc with station := .run } ∧ w.now = s.now := by simp [w, u, setStation]
  have hstatus : statusQueued w.tbi (queueStatus w) w.now := queueStatus_statusQueued (by rw [hw.1]; nofun)
  rw [hw.2] at hstatus
  exact ⟨hthrust, hrudder, hrequests, (hset.mono (by decide)).trans (honly.mono (by decide)), hstatus, rfl⟩

/-- HOLD_STATION by its rows. -/
theorem holdStation_rows {s : State} {f : Frame} (hadm : admits s f) (hf : f.cls = clsCommand) (hk : f.byte0 = 7) :
    (addressed (taken s) (getU 1 1 f.payload) = false → exec .holdStation s = .next (taken s))
      ∧ (addressed (taken s) (getU 1 1 f.payload) = true → s.hcu.helm = .inCommand →
          exec .holdStation s = .next (refuse f .holder (taken s)))
      ∧ (addressed (taken s) (getU 1 1 f.payload) = true → s.hcu.helm ≠ .inCommand →
          exec .holdStation s = .next (enterHold (taken s))) := by
  have hexec := exec_admitted (c := .holdStation) hadm (ofKind_of_byte0 (k := .holdStation) hf (by rw [hk]; rfl))
  rw [hexec]
  refine ⟨fun h => ?_, fun h hin => ?_, fun h hin => ?_⟩ <;>
    refine congrArg Host.Outcome.next ?_ <;> simp only [ownerOf, ownHold, h]
  · rfl
  · exact if_pos hin
  · exact if_neg hin

/-- RELEASE_STATION by its rows. -/
theorem releaseStation_rows {s : State} {f : Frame} (hadm : admits s f) (hf : f.cls = clsCommand) (hk : f.byte0 = 8) :
    (addressed (taken s) (getU 1 1 f.payload) = false → exec .releaseStation s = .next (taken s))
      ∧ (addressed (taken s) (getU 1 1 f.payload) = true → s.sc.station ≠ .hold →
          exec .releaseStation s = .next (refuse f .state (taken s)))
      ∧ (addressed (taken s) (getU 1 1 f.payload) = true → s.sc.station = .hold →
          exec .releaseStation s = .next (leaveHold (taken s))) := by
  have hexec := exec_admitted (c := .releaseStation) hadm (ofKind_of_byte0 (k := .releaseStation) hf (by rw [hk]; rfl))
  rw [hexec]
  refine ⟨fun h => ?_, fun h hst => ?_, fun h hst => ?_⟩ <;>
    refine congrArg Host.Outcome.next ?_ <;> simp only [ownerOf, ownRelease, h]
  · rfl
  · exact if_neg hst
  · exact if_pos hst

/-- Settles O52: the changes of station state by the effects they share. -/
theorem stationChanges : Obligations.StationChanges := by
  refine ⟨fun s f hadm hf => ?_, fun s d hp ht => ?_, fun s d hp ht => ?_⟩
  · have hhere : addressed (taken s) (getU 1 1 f.payload) = true
        ↔ getU 1 1 f.payload = s.sc.number.toNat ∨ getU 1 1 f.payload = 255 := addressed_iff _ _
    rw [← hhere]
    have henters {st : StationState} (hst : st = .run ∨ st = .hold) := stationEntry (u := taken s) hst
    have honly := taken_onlyChanges s
    refine ⟨fun hk => ?_, fun hk => ?_⟩
    · obtain ⟨haway, hcommand, hhold⟩ := holdStation_rows hadm hf hk
      refine ⟨fun h => haway (Bool.not_eq_true _ ▸ h), hcommand, fun h hin => ⟨_, hhold h hin, ?_⟩⟩
      obtain ⟨hsc, hthrust, hrudder, hrequests, hstatus, hframe⟩ := henters (.inr rfl)
      exact ⟨hsc, hthrust, hrudder, hrequests, hstatus, (honly.mono (by decide)).trans hframe⟩
    · obtain ⟨haway, hstate, hrelease⟩ := releaseStation_rows hadm hf hk
      refine ⟨fun h => haway (Bool.not_eq_true _ ▸ h), hstate, fun h hst => ⟨_, hrelease h hst, ?_⟩⟩
      obtain ⟨hsc, hthrust, hrudder, hrequests, hstatus, hframe⟩ := henters (.inl rfl)
      exact ⟨hsc, hthrust, hrudder, hrequests, hstatus, (honly.mono (by decide)).trans hframe⟩
  · rw [exec_reportTimer hp ht, statusPeriod_eq]
    have htbi := queueStatus_tbi (onSc (fun c => { c with reportTimer := some (d +
      if s.sc.station = .listen then 1000000 else 100000 * (cfg1 s).period) }) (reach d s))
    rw [queueStatus_frameOnly, htbi]
    rfl
  · obtain ⟨hthrust, hrudder, hrequests, honly, hstatus, hrest⟩ :=
      enterRun_effects (onSc (fun c => { c with joinTimer := none }) (reach d s))
    have hreach : onlyChanges [.now, .sc] s (onSc (fun c => { c with joinTimer := none }) (reach d s)) :=
      fun p hp => by cases p <;> simp_all [StatePart.same, onSc, reach]
    have hframe := (hreach.mono (by decide)).trans (honly.mono (by decide : _ ⊆ [.now, .sc, .tsu, .stu, .dch]))
    exact ⟨_, _, _, _, exec_joinTimer hp ht, by simp [setStation, onSc, reach], by simp [setStation, onSc, reach],
      hthrust, hrudder, hrequests, hframe, winchRun_joins .a _, winchRun_joins .b _, hstatus, hrest⟩

/-! ### The entry to JOINING (R39, R69, R111, R151, R172, R196 to R198) -/

section
variable (u : State)

/-- The state in which TSU and STU take the entry to JOINING. -/
def joinStarted : State := fauJoin (startJoining u)

theorem joinStarted_keeps :
    (joinStarted u).sc = (startJoining u).sc ∧ (joinStarted u).stu = u.stu ∧ (joinStarted u).pins = u.pins
      ∧ (joinStarted u).tsu = u.tsu ∧ (joinStarted u).tbi = u.tbi ∧ (joinStarted u).now = u.now
      ∧ (joinStarted u).dch = (startJoining u).dch := by
  unfold joinStarted fauJoin
  split <;> exact ⟨rfl, rfl, rfl, rfl, rfl, rfl, rfl⟩

theorem joinStarted_joined : joined (joinStarted u).sc.station = true := by
  rw [(joinStarted_keeps u).1]
  rfl

theorem enterJoining_timers :
    (enterJoining u).ssq = { u.ssq with controlTimer := some u.now, scan := scanJoin u.ssq.scan }
      ∧ (enterJoining u).hcu = { u.hcu with helmLossTimer := some (u.now + 1000000), helmLost := false }
      ∧ (enterJoining u).fau =
          (if u.sc.fitted.engine then { u.fau with accountTimer := some (u.now + 10000000) } else u.fau) := by
  refine ⟨by simp [enterJoining, startJoining], by simp [enterJoining, startJoining, ms], ?_⟩
  have hfau : (enterJoining u).fau = (fauJoin (startJoining u)).fau := by simp [enterJoining]
  rw [hfau]
  unfold fauJoin
  exact apply_ite State.fau _ _ _

theorem stuChange_tau (s : State) :
    (stuChange s).tau =
      { s.tau with
        latched :=
          { s.tau.latched with
            steerStop :=
              s.tau.latched.steerStop || (s.sc.fitted.rudder && (s.sc.station == .joining && s.pins.steerStop)) } } := by
  unfold stuChange
  split
  next h => simp [onLatched, commitStu, h]
  next h => simp [h]

/-- What the entry reports: a saturated leg and an active STEER_STOP (R82, R111). -/
theorem enterJoining_tau :
    (enterJoining u).tau =
      { u.tau with
        latched :=
          { u.tau.latched with
            accountSaturated := u.tau.latched.accountSaturated || (u.sc.fitted.engine && u.fau.kept.flags.saturated)
            steerStop := u.tau.latched.steerStop || (u.sc.fitted.rudder && u.pins.steerStop) } } := by
  have hstart : (tsuChange (joinStarted u)).tau =
      { u.tau with
        latched :=
          { u.tau.latched with
            accountSaturated :=
              u.tau.latched.accountSaturated || (u.sc.fitted.engine && u.fau.kept.flags.saturated) } } := by
    simp only [tsuChange_frame, joinStarted]
    unfold fauJoin
    split
    next h => simp [onLatched, startJoining] at h ⊢; simp [h]
    next h => simp [startJoining] at h ⊢; simp [h]
  change (stuChange (tsuChange (joinStarted u))).tau = _
  rw [stuChange_tau, hstart]
  obtain ⟨hsc, -, hpins, -⟩ := joinStarted_keeps u
  simp only [tsuChange_frame, hsc, hpins]
  rfl

/-- TSU at the entry: no power, set-point 0, the engine at idle (R53, R64). -/
theorem enterJoining_engine (hf : u.sc.fitted.engine = true) :
    (enterJoining u).tsu.aOwn = 0 ∧ (enterJoining u).tsu.sp = 0 ∧ (enterJoining u).tsu.dutyReq = (cfg1 u).idleDuty
      ∧ (enterJoining u).dch.gov.req = min 1000 (cfg1 u).idleDuty := by
  obtain ⟨hsc, -⟩ := joinStarted_keeps u
  have hfit : (joinStarted u).sc.fitted.engine = true := by rw [hsc]; exact hf
  have hcfg : cfg1 (joinStarted u) = cfg1 u := by rw [cfg1, hsc]; rfl
  have htsu : (enterJoining u).tsu = (tsuChange (joinStarted u)).tsu := by simp [enterJoining, joinStarted]
  obtain ⟨hthrust, -⟩ := tsuChange_thrustAtChange (joinStarted_joined u)
  specialize hthrust hfit
  have hst : (tsuChange (joinStarted u)).sc.station = .joining := by simp only [tsuChange_frame, hsc]; rfl
  have hduty : (enterJoining u).tsu.dutyReq = (cfg1 u).idleDuty := by
    rw [htsu, hthrust, hst, hcfg]
    rfl
  have hdch : (enterJoining u).dch = (stuChange (tsuChange (joinStarted u))).dch := rfl
  have hreq := change_requests (joinStarted u)
  refine ⟨?_, ?_, hduty, ?_⟩
  · rw [htsu, hthrust, hst]
    simp
  · rw [htsu, hthrust, hst]
    simp
  · rw [hdch, hreq, hfit, if_pos rfl, ← hduty]
    rfl

theorem enterJoining_restHold : (enterJoining u).dch.restHold = false := by
  have hdch : (enterJoining u).dch = (stuChange (tsuChange (joinStarted u))).dch := rfl
  rw [hdch, change_requests (joinStarted u), (joinStarted_keeps u).2.2.2.2.2.2]
  rfl

theorem enterJoining_rudder : rudderAtChange u (enterJoining u) := by
  obtain ⟨hsc, hstu, hpins, -⟩ := joinStarted_keeps u
  have hrudder := stuChange_rudderAtChange (s := tsuChange (joinStarted u)) (by simpa using joinStarted_joined u)
  exact rudderAtChange_congr (s := startJoining u) (by simp [hsc]) (by simp [hstu, startJoining]) (by simp [hpins, startJoining]) hrudder

theorem enterJoining_status : statusQueued u.tbi (enterJoining u) u.now := by
  obtain ⟨hsc, -, -, -, htbi, hnow, -⟩ := joinStarted_keeps u
  have hstatus := queueStatus_statusQueued (s := stuChange (tsuChange (joinStarted u))) (by
    simp only [stuChange_frame, tsuChange_frame, hsc]
    nofun)
  simp only [stuChange_frame, tsuChange_frame, htbi, hnow] at hstatus
  exact hstatus

theorem enterJoining_onlyChanges :
    onlyChanges [.sc, .tbi, .hcu, .tsu, .stu, .fau, .tau, .ssq, .dch] u (enterJoining u) :=
  fun p hp => by cases p <;> simp_all [StatePart.same]

end

/-! ### A line reset that joins at once (R201) -/

theorem scanJoin_reset (x : ScanState) :
    scanJoin (scanLineReset x) = (match x with | .busy _ | .interrupted => .interrupted | .stopped | .waiting => .waiting) := by
  cases x <;> rfl

/-- Settles O5: the units' reset, then the entry to JOINING. -/
theorem lineResetJoins : Obligations.LineResetJoins := by
  intro stn fit s hp hlock hvalid hset
  have hexec : exec (.lineReset stn fit) s = .next (enterJoining (lineResetUnits stn fit s)) := by
    rw [exec_lineReset, live_of_powered hp, if_pos ((joinsAtOnce_iff stn fit s).mpr ⟨hlock, hvalid, hset⟩)]
  obtain ⟨hssq, hhcu, hfau⟩ := enterJoining_timers (lineResetUnits stn fit s)
  have hengine := enterJoining_engine (lineResetUnits stn fit s)
  have htau := enterJoining_tau (lineResetUnits stn fit s)
  have hunits : onlyChanges [.due, .sc, .tbi, .pt, .hcu, .tsu, .stu, .cu, .fau, .tau, .ssq, .dch] s
      (lineResetUnits stn fit s) := fun p hp => by cases p <;> simp_all [StatePart.same, lineResetUnits, resetUnits]
  have hkeep : (lineResetUnits stn fit s).now = s.now ∧ (lineResetUnits stn fit s).pins = s.pins
      ∧ (lineResetUnits stn fit s).pending = s.pending := ⟨rfl, rfl, rfl⟩
  obtain ⟨hnow, hpins, hpending⟩ := hkeep
  refine ⟨_, hexec, ?_, enterJoining_restHold _, by rw [hssq]; rfl, by rw [hhcu]; rfl, by rw [hhcu], by rw [hhcu]; rfl,
    by rw [hhcu]; rfl, by rw [htau]; rfl, ?_, fun hf => ?_, fun n => ?_, ?_, ?_, fun hf => ?_, enterJoining_status _, ?_,
    ?_, hunits.trans ((enterJoining_onlyChanges _).mono (by decide)), by simp [hnow], by simp [hpins], by simp [hpending]⟩
  · rw [enterJoining_sc, ← mul_assoc]
    rfl
  · rw [htau]
    simp [lineResetUnits, resetUnits, tauReset, latchedNone, scLineReset, fauReset]
  · have hrudder := ((enterJoining_rudder (lineResetUnits stn fit s)).2 hf).2
    have hstu : (lineResetUnits stn fit s).stu = stuReset fit.rudder := rfl
    have hfree : (lineResetUnits stn fit s).stu.state = .resting := by rw [hstu, hf]; rfl
    obtain ⟨hstop, -, -, -, hsettled, -⟩ := hrudder
    split
    next hin => exact hstop (.inl hfree) hin
    next hin =>
      exact hsettled (.inl hfree) (Bool.not_eq_true _ ▸ hin) (fun r hr => nomatch hr) (by rw [enterJoining_sc])
  · have hpt : (enterJoining (lineResetUnits stn fit s)).pt = ptReset := by simp [lineResetUnits, resetUnits]
    exact peer_ptReset hpt n
  · rw [hfau]
    split <;> rfl
  · rw [hfau]
    change (if fit.engine = true then _ else _ : Fau).accountTimer = _
    split <;> rfl
  · obtain ⟨-, hsp, -, hreq⟩ := hengine hf
    exact ⟨hsp, hreq⟩
  · rw [hssq]
    exact ⟨rfl, rfl, rfl, fun ch => by cases ch <;> rfl, rfl⟩
  · rw [hssq]
    exact scanJoin_reset _

/-! ### Commissioning (R199, R200, R210) -/

/-- A block's verdict from what is written, what its range check asks of the fields, and what its ordering check asks. -/
theorem blockVerdict_of {c : Sc} {b : Block} {fields : List BlockField} {order : Prop} {written : Sc}
    (hwritten : writeBlock c b = written) (hrange : blockInRange c b = true ↔ ∀ x ∈ fields, x.ok)
    (horder : blockOrdered c b = true ↔ order) : blockVerdict c b fields order written := by
  have hfail : (∃ x ∈ fields, ¬ x.ok) ↔ blockInRange c b = false := by
    rw [Bool.eq_false_iff, ne_eq, hrange]
    simp
  refine ⟨hwritten, ?_⟩
  rw [hfail, ← hrange, ← horder, blockFailure]
  cases blockInRange c b <;> cases blockOrdered c b <;> simp

/-- A calibration pair is in range where its four fields are (R210). -/
theorem pairInRange_iff (lo hi : Int) (c : CalPair) :
    pairInRange lo hi c = true ↔ ∀ x ∈ pairFields lo hi c, x.ok := by
  simp [pairInRange, inRange, pairFields, plainField, signedField, and_assoc]

theorem leverInRange_iff (c : LeverCal) : leverInRange c = true ↔ ∀ x ∈ leverFields c, x.ok := by
  simp [leverInRange, inRange, leverFields, plainField, and_assoc]

theorem p1InRange_iff (engine : Bool) (c : P1) : p1InRange engine c = true ↔ ∀ x ∈ p1Fields engine c, x.ok := by
  cases engine
  · simp [p1InRange, inRange, p1Fields, plainField, signedField, checkedIf]
  · simp [p1InRange, inRange, p1Fields, plainField, signedField, checkedIf]
    tauto

theorem p2InRange_iff (rest : Nat) (c : P2) : p2InRange rest c = true ↔ ∀ x ∈ p2Fields rest c, x.ok := by
  simp only [p2InRange, Bool.and_eq_true, pairInRange_iff, p2Fields, List.forall_mem_append]
  simp [inRange, plainField]
  tauto

theorem p3InRange_iff (c : P3) : p3InRange c = true ↔ ∀ x ∈ p3Fields c ++ p3Pairs c, x.ok := by
  simp only [p3InRange, Bool.and_eq_true, pairInRange_iff, p3Fields, p3Pairs, List.forall_mem_append]
  simp [inRange, plainField]
  tauto

theorem p4InRange_iff (c : P4) : p4InRange c = true ↔ ∀ x ∈ p4Fields c ++ p4Volumes c, x.ok := by
  simp only [p4InRange, Bool.and_eq_true, pairInRange_iff, p4Fields, p4Volumes, List.forall_mem_append]
  simp [inRange, plainField]
  tauto

theorem p5InRange_iff (c : P5) : p5InRange c = true ↔ ∀ x ∈ p5Fields c, x.ok := by
  simp only [p5InRange, Bool.and_eq_true, leverInRange_iff, p5Fields, List.forall_mem_append]
  simp [inRange, plainField]

/-- A list does not decrease where no entry is above the next one. -/
theorem nonDecreasing_iff (l : List Nat) :
    nonDecreasing l = true ↔ ∀ i, i + 1 < l.length → l.getD i 0 ≤ l.getD (i + 1) 0 := by
  match l with
  | [] => simp [nonDecreasing]
  | [_] => simp [nonDecreasing]
  | a :: b :: rest =>
    rw [nonDecreasing, Bool.and_eq_true, nonDecreasing_iff (b :: rest), decide_eq_true_eq]
    refine ⟨fun ⟨hab, hrest⟩ i hi => ?_, fun h => ⟨h 0 (by simp), fun i hi => h (i + 1) (by simpa using hi)⟩⟩
    cases i with
    | zero => exact hab
    | succ i => exact hrest i (by simpa using hi)

theorem pairOrdered_iff (c : CalPair) : pairOrdered c = true ↔ pairInOrder c := decide_eq_true_iff

theorem volumes_length (p q : List Byte) : (getP4 p q).volumes.length = 11 := by
  simp [getP4]

/-- Each block by its fields and its orderings (R200, R210). -/
theorem blocksChecked : BlocksChecked := by
  intro c
  refine ⟨blockVerdict_of rfl (p1InRange_iff _ _) ?_, blockVerdict_of rfl (p2InRange_iff _ _) ?_,
    blockVerdict_of rfl (p3InRange_iff _) ?_, blockVerdict_of rfl (p4InRange_iff _) ?_,
    blockVerdict_of rfl (p5InRange_iff _) ?_, volumes_length _ _⟩
  · simp only [blockOrdered, p1Ordered]
    cases c.fitted.engine <;> simp
  · simp [blockOrdered, p2Ordered, pairOrdered_iff, and_assoc]
  · simp [blockOrdered, p3Ordered, pairOrdered_iff, and_assoc]
  · simp only [blockOrdered, p4Ordered, Bool.and_eq_true, pairOrdered_iff, nonDecreasing_iff, volumes_length, and_assoc,
      show ∀ i, i + 1 < 11 ↔ i < 10 by omega]
  · simp only [blockOrdered, p5Ordered, Bool.and_eq_true, leverOrdered, decide_eq_true_eq, leverInOrder]

/-! #### Staging (R199, R200) -/

theorem stagePart_eq (c : Sc) (b : Block) (i : Nat) (p : List Byte) : stagePart ⟨b, i, p⟩ c = partStaged c b i p := by
  simp only [stagePart, partStaged]
  congr 3
  funext y
  by_cases hb : y.block = b <;> by_cases hi : y.part = i <;> simp [hb, hi]

theorem unstage_eq (b : Block) (c : Sc) : unstage b c = stagingEmptied c b := by
  simp only [unstage, stagingEmptied]
  congr 2
  funext y
  by_cases hb : y.block = b <;> simp [hb]

/-- A part staged is found with its bytes; every other part is as it was. -/
theorem stagedPart_partStaged (c : Sc) (b : Block) (i : Nat) (p : List Byte) (b' : Block) (i' : Nat) :
    stagedPart (partStaged c b i p) b' i' = if b' = b ∧ i' = i then some p else stagedPart c b' i' := by
  simp only [stagedPart, partStaged, List.find?_append, List.find?_filter]
  split
  next h =>
    obtain ⟨rfl, rfl⟩ := h
    rw [List.find?_eq_none.mpr fun y _ => by by_cases hb : y.block = b' <;> simp [hb]]
    simp
  next h =>
    have hnew : (b == b' && i == i') = false := by
      rw [Bool.and_eq_false_iff, beq_eq_false_iff_ne, beq_eq_false_iff_ne, ← not_and_or]
      exact fun heq => h ⟨heq.1.symm, heq.2.symm⟩
    have hold (y : StagedPart) :
        decide (decide (y.block ≠ b ∨ y.part ≠ i) = true ∧ (y.block == b' && y.part == i') = true)
          = (y.block == b' && y.part == i') := by
      by_cases hy : y.block = b' ∧ y.part = i'
      · obtain ⟨rfl, rfl⟩ := hy
        simp only [not_and] at h
        simp only [ne_eq, beq_self_eq_true, Bool.and_self, and_true]
        by_cases hb : y.block = b
        · simp [hb, h hb]
        · simp [hb]
      · have : (y.block == b' && y.part == i') = false := by simpa using hy
        simp [this]
    simp only [hold]
    rw [List.find?_cons_of_neg (by simp [hnew])]
    simp

theorem stagedPart_isSome_iff (c : Sc) (b : Block) (k : Nat) :
    (stagedPart c b k).isSome = true ↔ ∃ y ∈ c.staging, y.block = b ∧ y.part = k := by
  simp [stagedPart, List.find?_isSome]

theorem blockReady_iff (c : Sc) (b : Block) :
    blockReady c b = true ↔ ∀ k, 1 ≤ k → k ≤ partCount b → ∃ y ∈ c.staging, y.block = b ∧ y.part = k := by
  simp only [blockReady, List.all_eq_true, List.mem_range, stagedPart_isSome_iff]
  refine ⟨fun h k h1 hk => ?_, fun h k hk => h (k + 1) (by omega) hk⟩
  have := h (k - 1) (by omega)
  rwa [Nat.sub_add_cancel h1] at this

theorem partCount_eq (b : Block) : partCount b = partsOf b := by cases b <;> rfl

theorem stagedPart_stagingEmptied (c : Sc) (b : Block) (k : Nat) : stagedPart (stagingEmptied c b) b k = none := by
  simp only [stagedPart, stagingEmptied, List.find?_filter]
  rw [List.find?_eq_none.mpr fun y _ => by by_cases hb : y.block = b <;> simp [hb]]
  rfl

theorem blockRequired_iff (f : Fitted) (b : Block) :
    blockRequired f b = true ↔
      b = .p1 ∨ (b = .p2 ∧ f.rudder = true) ∨ (b = .p3 ∧ (f.winchA = true ∨ f.winchB = true))
        ∨ (b = .p4 ∧ f.engine = true) ∨ (b = .p5 ∧ f.helm = true) := by
  cases b <;> simp [blockRequired]

theorem stagingKept : StagingKept := by
  intro c b i p
  refine ⟨?_, fun b' i' hne => ?_, ?_, stagedPart_stagingEmptied c b, partCount_eq b, setComplete_iff c,
    blockRequired_iff _ _⟩
  · rw [partBytes, stagedPart_partStaged, if_pos ⟨rfl, rfl⟩]
    rfl
  · rw [stagedPart_partStaged, if_neg fun h => hne (Prod.ext h.1 h.2)]
  · rw [blockReady_iff, partCount_eq]

/-! #### The rows of R200 -/

/-- A block that passes: written, its staging emptied, and the complete set locked with the entry to JOINING. -/
theorem acceptBlock_eq (b : Block) (s : State) :
    acceptBlock b s =
      if setComplete (stagingEmptied (writeBlock s.sc b) b) then
        enterJoining { s with sc := { stagingEmptied (writeBlock s.sc b) b with lock := true } }
      else { s with sc := stagingEmptied (writeBlock s.sc b) b } := by
  rw [acceptBlock, ← unstage_eq]
  rfl

/-- At the entry to JOINING the rest policy of P2 has no say in where STU settles. -/
theorem rudderAtChange_joining {s u t : State} (hfit : u.sc.fitted = s.sc.fitted) (hstu : u.stu = s.stu)
    (hpins : u.pins = s.pins) (hst : t.sc.station = .joining) (h : rudderAtChange u t) : rudderAtChange s t := by
  unfold rudderAtChange at h ⊢
  rw [hfit, hstu, hpins] at h
  refine ⟨h.1, fun hf => ?_⟩
  obtain ⟨hbound, hstop, hblind, hrun, -, hjoining, hresponsive, hrest⟩ := h.2 hf
  exact ⟨hbound, hstop, hblind, hrun, fun _ _ _ hhold => absurd (hst.symm.trans hhold) nofun, hjoining, hresponsive, hrest⟩

/-- The entry from LISTEN that a locked record makes, SC being replaced by a record of the same number and straps. -/
theorem commissionedJoining {s : State} {c : Sc} (hnumber : c.number = s.sc.number) (hfit : c.fitted = s.sc.fitted) :
    let t := enterJoining { taken s with sc := c }
    t.sc =
        { c with
          station := .joining, joinTimer := some (s.now + 300000 * (cfg1 t).period)
          reportTimer := some (s.now + 1000 * (s.sc.number.toNat * ((cfg1 t).period * 100) / 32)) }
      ∧ t.dch.restHold = false ∧ t.ssq.controlTimer = some s.now ∧ t.ssq.scan = scanJoin s.ssq.scan
      ∧ t.hcu = { s.hcu with helmLossTimer := some (s.now + 1000000), helmLost := false }
      ∧ (s.sc.fitted.engine = true →
          t.tsu.aOwn = 0 ∧ t.tsu.sp = 0 ∧ t.tsu.dutyReq = (cfg1 t).idleDuty
            ∧ t.fau = { s.fau with accountTimer := some (s.now + 10000000) })
      ∧ rudderAtChange s t ∧ statusQueued (taken s).tbi t s.now
      ∧ t.tau =
          { s.tau with
            latched :=
              { s.tau.latched with
                accountSaturated :=
                  s.tau.latched.accountSaturated || (s.sc.fitted.engine && s.fau.kept.flags.saturated)
                steerStop := s.tau.latched.steerStop || (s.sc.fitted.rudder && s.pins.steerStop) } }
      ∧ onlyChanges [.sc, .tbi, .hcu, .tsu, .stu, .fau, .tau, .ssq, .dch] s t := by
  intro t
  obtain ⟨hssq, hhcu, hfau⟩ := enterJoining_timers { taken s with sc := c }
  have htau := enterJoining_tau { taken s with sc := c }
  have hsc := enterJoining_sc { taken s with sc := c }
  have hcfg : cfg1 t = cfg1 { taken s with sc := c } := by rw [cfg1, hsc]; rfl
  have hsetOnly : onlyChanges [.sc, .tbi] s { taken s with sc := c } :=
    fun p hp => by cases p <;> simp_all [StatePart.same, taken, dequeue]
  refine ⟨?_, enterJoining_restHold _, by rw [hssq]; rfl, by rw [hssq]; rfl, by rw [hhcu]; rfl, fun hf => ?_, ?_,
    enterJoining_status _, ?_, (hsetOnly.mono (by decide)).trans (enterJoining_onlyChanges _)⟩
  · have hms : ms (3 * (cfg1 { taken s with sc := c }).period * 100) = 300000 * (cfg1 { taken s with sc := c }).period := by
      rw [ms]
      omega
    rw [hcfg, hsc, hms, ← hnumber]
    rfl
  · have hengine := enterJoining_engine { taken s with sc := c } (hfit ▸ hf)
    rw [hcfg, hfau]
    exact ⟨hengine.1, hengine.2.1, hengine.2.2.1, if_pos (hfit ▸ hf)⟩
  · exact rudderAtChange_joining (u := { taken s with sc := c }) hfit rfl rfl (by rw [hsc]) (enterJoining_rudder _)
  · rw [htau, hfit]
    rfl

theorem scanJoin_eq (x : ScanState) : scanJoin x = if x = .interrupted then .interrupted else .waiting := by
  cases x <;> simp [scanJoin]

/-- A part staged and its block checked where that makes it ready, by what the check finds (R200). -/
theorem checkBlock_rows (f : Frame) (b : Block) (i : Nat) (p : List Byte) (s : State) :
    let c := partStaged s.sc b i p
    let d := stagingEmptied (writeBlock c b) b
    let checked := checkBlock f b { taken s with sc := c }
    (blockReady c b = false → checked = { taken s with sc := c })
      ∧ (∀ r, blockReady c b = true → blockFailure c b = some r →
          checked =
            { commissionRefused s f (some b) r with
              sc := stagingEmptied { c with lastRefusal := some ⟨some b, r⟩ } b })
      ∧ (blockReady c b = true → blockFailure c b = none → setComplete d = false → checked = { taken s with sc := d })
      ∧ (blockReady c b = true → blockFailure c b = none → setComplete d = true →
          checked = enterJoining { taken s with sc := { d with lock := true } }) := by
  intro c d checked
  refine ⟨fun hr => ?_, fun r hr hf => ?_, fun hr hf hd => ?_, fun hr hf hd => ?_⟩
  · exact if_neg (ne_true_of_eq_false hr)
  · simp only [checked, checkBlock, hr, if_true]
    rw [hf, ← unstage_eq]
    rfl
  all_goals
    simp only [checked, checkBlock, hr, if_true]
    rw [hf]
    refine (acceptBlock_eq b _).trans ?_
  · exact if_neg (ne_true_of_eq_false hd)
  · exact if_pos hd

theorem exec_commission {s : State} {f : Frame} (hadm : admits s f) (hf : f.cls = clsCommission) :
    exec .commission s = .next (ownCommission f (taken s)) := exec_admitted (c := .commission) hadm (beq_iff_eq.mpr hf)

/-- A named part of a block goes to `takePart` where the number is valid and the record is open. -/
theorem ownCommission_open {s : State} {f : Frame} {b : Block} (hvalid : validStation s.sc.number = true)
    (hlock : s.sc.lock = false) (hb : namedBlock f = some b) : ownCommission f (taken s) = takePart f b (taken s) := by
  have hv : validStation (taken s).sc.number = true := hvalid
  have hl : (taken s).sc.lock = false := hlock
  rw [ownCommission, hv, hl, hb]
  rfl

/-- A part of a required block that is not yet in the record: refused for its number, or staged and checked. -/
theorem takePart_open {s : State} {f : Frame} {b : Block} (hp : blockPresent s.sc b = false)
    (hr : blockRequired s.sc.fitted b = true) :
    takePart f b (taken s) =
      if getU 1 1 f.payload < 1 ∨ partCount b < getU 1 1 f.payload then commissionRefused s f (some b) .range
      else checkBlock f b { taken s with sc := partStaged s.sc b (getU 1 1 f.payload) (f.payload.drop 2) } := by
  have hp' : blockPresent (taken s).sc b = false := hp
  have hr' : blockRequired (taken s).sc.fitted b = true := hr
  rw [takePart, hp', hr', ← stagePart_eq]
  rfl

/-- Settles O51: what the checks are, what staging keeps, and the rows in their order. -/
theorem commission : Obligations.Commission := by
  refine ⟨blocksChecked, stagingKept, fun s f hadm hf => ⟨fun hv => ?_, fun hv hl => ?_, fun hv hl hn => ?_,
    fun b hv hl hn => ⟨fun hp => ?_, fun hp hr => ?_, fun hp hr hi => ?_, fun hp hr h1 hi => ?_⟩⟩⟩ <;>
    rw [exec_commission hadm hf]
  · have hv' : validStation (taken s).sc.number = false := Bool.eq_false_iff.mpr hv
    rw [ownCommission, hv']
    rfl
  · have hv' : validStation (taken s).sc.number = true := hv
    have hl' : (taken s).sc.lock = true := hl
    rw [ownCommission, hv', hl']
    rfl
  · have hv' : validStation (taken s).sc.number = true := hv
    have hl' : (taken s).sc.lock = false := hl
    rw [ownCommission, hv', hl', hn]
    rfl
  all_goals rw [ownCommission_open hv hl hn]
  · exact congrArg Host.Outcome.next (if_pos hp)
  · have hp' : blockPresent (taken s).sc b = false := hp
    have hr' : blockRequired (taken s).sc.fitted b = false := hr
    rw [takePart, hp', hr']
    rfl
  all_goals rw [takePart_open hp hr]
  · exact congrArg Host.Outcome.next (if_pos (by omega))
  · rw [if_neg (by omega)]
    obtain ⟨hmore, hfail, hwritten, hjoin⟩ := checkBlock_rows f b (getU 1 1 f.payload) (f.payload.drop 2) s
    refine ⟨fun h => congrArg _ (hmore h), fun r h h' => congrArg _ (hfail r h h'),
      fun h h' hd => congrArg _ (hwritten h h' hd), fun h h' hd => ⟨_, congrArg _ (hjoin h h' hd), ?_⟩⟩
    have hsame : ∀ c : Sc, (stagingEmptied (writeBlock c b) b).number = c.number
        ∧ (stagingEmptied (writeBlock c b) b).fitted = c.fitted := fun c => by cases b <;> exact ⟨rfl, rfl⟩
    obtain ⟨hnumber, hfit⟩ := hsame (partStaged s.sc b (getU 1 1 f.payload) (f.payload.drop 2))
    rw [← scanJoin_eq]
    exact commissionedJoining hnumber hfit

end Sys2Proof.Machine
end

section
/-! PROOFS. A frame with the own number; CLEAR_TRIP and ACK_ALARMS (R141 to R145, R182, R203). -/

namespace Sys2Proof.Machine

open Sys2Proof

/-! ### A frame with the own number (R172, R182, R203) -/

/-- A frame with the own number is a duplicate while joined, unless it is a STATUS reporting LISTEN (R182). -/
theorem judge_of_own {s : State} {f : Frame} (hvalid : validStation s.sc.number = true) (hown : f.sender = s.sc.number) :
    judge s f =
      if (s.sc.station = .joining ∨ s.sc.station = .run ∨ s.sc.station = .hold) ∧ ¬ (f.rank = 5 ∧ f.byte0 = 0) then
        .duplicate
      else .ignored := by
  have hlisten : listenStatus f = true ↔ f.rank = 5 ∧ f.byte0 = 0 := by
    have hcls : f.cls = clsStatus ↔ f.rank = 5 := rank_ext.symm
    simp [listenStatus, hcls]
  have hjoined : joined s.sc.station = true ↔ s.sc.station = .joining ∨ s.sc.station = .run ∨ s.sc.station = .hold := by
    rw [joined_eq, decide_eq_true_iff]
  simp only [judge, hvalid, hown, beq_self_eq_true, Bool.and_self, if_true, ← hlisten, ← hjoined, Bool.and_eq_true,
    Bool.not_eq_true']
  simp

/-- A pair at the rest hold (R166, R172). -/
theorem restPair_eq (p : Pair) :
    restPair p = ⟨0, 0, 0, 0, if activeSide p = none then p.last else activeSide p, none⟩ := by
  rw [restPair]
  cases activeSide p <;> rfl

theorem winchSafe_inSafe (x : Winch) : winchInSafe x (winchSafe x) := by
  unfold winchSafe
  split
  next h => exact ⟨by rw [if_pos h, h], fun hne => absurd h hne⟩
  next h => exact ⟨by rw [if_neg h], fun _ => ⟨rfl, rfl, rfl, rfl, rfl, rfl, rfl, rfl, rfl, rfl, rfl⟩⟩

theorem stuSafe_eq (x : Stu) :
    (stuSafe x).responsive = (if x.state = .unfitted then x.responsive else false)
      ∧ (x.state ≠ .unfitted →
          (stuSafe x).state = .resting ∧ (stuSafe x).reqPort = 0 ∧ (stuSafe x).reqStbd = 0 ∧ (stuSafe x).jam = none) := by
  unfold stuSafe
  split
  next h => exact ⟨by rw [if_pos h], fun hne => absurd h hne⟩
  next h => exact ⟨by rw [if_neg h], fun _ => ⟨rfl, rfl, rfl, rfl⟩⟩

/-- TBI after a duplicate: the attempt ended as a failed one, the line SILENCED (R179, R182). -/
theorem duplicateSeen_tbi (s : State) :
    (duplicateSeen s).tbi =
      { (match s.tbi.inflight with | some fl => attemptOver fl s.tbi | none => s.tbi) with
        line := .silenced, muteTimer := none } := by
  have hend : endAttempt s.tbi = match s.tbi.inflight with | some fl => attemptOver fl s.tbi | none => s.tbi := by
    cases h : s.tbi.inflight with
    | none => rw [endAttempt, h]
    | some fl => exact endAttempt_eq h
  rw [← hend]
  rfl

/-- The duplicate's frame, counted IGNORED before the line is silenced. -/
def duplicateHeard (s : State) : State := count .ignored (dequeue s)

theorem duplicateHeard_tbi (s : State) :
    (duplicateHeard s).tbi = { s.tbi with rxQueue := s.tbi.rxQueue.tail, counters := ignoredOnce s.tbi.counters } := rfl

/-- Settles O15: the duplicate's effects by unit, and the frames that are merely ignored. -/
theorem duplicateStation : Obligations.DuplicateStation := by
  intro c s f hp hf hfits hvalid hown
  have hexec := exec_settles hp hf hfits
  rw [judge_of_own hvalid hown] at hexec
  refine ⟨fun h => ?_, fun hj hl => ?_⟩
  · rw [hexec, if_neg (by tauto)]
    rfl
  · rw [if_pos ⟨hj, hl⟩] at hexec
    replace hexec : exec c s = .next (duplicateSeen (duplicateHeard s)) := hexec
    have htbi := duplicateSeen_tbi (duplicateHeard s)
    have hfault : (duplicateSeen (duplicateHeard s)).dch.faultReq = true := rfl
    refine ⟨_, hexec, rfl, rfl, ?_, ?_, fun fl hfl hfate hslot => ?_, ?_, rfl, ?_, fun i => ?_, ?_, fun he => ?_, ?_,
      fun hu => ?_, winchSafe_inSafe _, winchSafe_inSafe _, rfl, fun p hp => ?_⟩
    · exact endAttempt_inflight _
    · rw [htbi]
      cases hi : s.tbi.inflight <;> simp only [duplicateHeard_tbi, hi]
    · have hi : (duplicateHeard s).tbi.inflight = some fl := hfl
      simp only [htbi, hi, attemptOver, hfate]
      exact ⟨slotOf_putSlot_same hslot, rfl⟩
    · refine ⟨rfl, rfl, rfl, rfl, rfl, rfl, rfl, rfl, rfl, rfl, rfl, rfl, fun w => by cases w <;> rfl⟩
    · rw [outFault, hfault, Bool.or_true]
    · cases i <;> exact ⟨rfl, rfl, rfl, congrArg Pair.last (restPair_eq _)⟩
    · have hhcu : (duplicateSeen (duplicateHeard s)).hcu = hcuSafe s.sc.number s.hcu := rfl
      rw [hhcu, hcuSafe, beq_eq_decide]
    · have htsu : (duplicateSeen (duplicateHeard s)).tsu = tsuSafe s.tsu := if_pos he
      rw [htsu]
      exact ⟨rfl, rfl, rfl, rfl, rfl⟩
    · exact (stuSafe_eq s.stu).1
    · exact (stuSafe_eq s.stu).2 hu
    · have hheard : onlyChanges [.tbi] s (duplicateHeard s) :=
        fun p hp => by cases p <;> simp_all [StatePart.same, duplicateHeard, count, dequeue]
      have hseen : onlyChanges [.sc, .tbi, .hcu, .tsu, .stu, .cu, .tau, .dch] (duplicateHeard s)
          (duplicateSeen (duplicateHeard s)) := fun p hp => by cases p <;> simp_all [StatePart.same]
      exact (hheard.mono (by decide)).trans hseen p hp

/-! ### CLEAR_TRIP and ACK_ALARMS (R141, R143, R145, R69, R81, R83) -/

/-- CLEAR_TRIP by its rows. -/
theorem clearTrip_rows {s : State} {f : Frame} (hadm : admits s f) (hf : f.cls = clsCommand) (hk : f.byte0 = 5) :
    exec .clearTrip s =
      .next
        (if addressed (taken s) (getU 1 1 f.payload) = false then taken s
         else if s.tau.latch = false then taken s
         else if s.tau.causes ≠ [] then refuse f .causeActive (taken s)
         else if (used s).d ≠ 0 then refuse f .demand (taken s)
         else { taken s with tau := { s.tau with latch := false } }) := by
  rw [exec_admitted (c := .clearTrip) hadm (ofKind_of_byte0 (k := .clearTrip) hf (by rw [hk]; rfl))]
  have hlatch : (taken s).tau.latch = s.tau.latch := rfl
  simp only [ownerOf, ownClearTrip, Bool.not_eq_true', hlatch]
  rfl

/-- The settling of a rudder in a state that gives it no duty, as STU's record then stands (R69, R70). -/
theorem commitStu_settle_standIn {s : State} {x : Stu} {st : RudderState} (hst : st ≠ .following)
    (h : settle s x = standIn st x) :
    (commitStu (settle s x) s).stu = atRestIn st x := by
  rw [h, commitStu_standIn hst]

theorem settle_following {s : State} {x : Stu} (h : settledState s x.latest = .following) :
    settle s x = { x with state := .following } := by rw [settle, h]

theorem settle_resting {s : State} {x : Stu} (h : settledState s x.latest = .resting) :
    settle s x = standIn .resting x := by rw [settle, h]

/-- A JAMMED rudder settles when its alarm is cleared (R69, R81, R83, R84). -/
theorem ackedRudder_settles {s u : State} (hsc : u.sc = s.sc) (hpins : u.pins = s.pins) (hstu : u.stu = s.stu)
    (hdch : u.dch = s.dch) (hst : s.stu.state = .jammed) :
    let t := stuAckJam u
    (joined s.sc.station = true → s.pins.steerStop = true → t.stu = atRestIn .stopped s.stu)
      ∧ (joined s.sc.station = true → s.pins.steerStop = false →
          (∃ r, s.stu.latest = some r ∧ givenBy r = none) → t.stu = atRestIn .blind s.stu)
      ∧ (s.pins.steerStop = false → (∀ r, s.stu.latest = some r → givenBy r ≠ none) →
          (s.sc.station = .run → t.stu = { s.stu with state := .following, responsive := true })
            ∧ (s.sc.station = .hold → (cfg2 s).rest = .centre →
                t.stu = { s.stu with state := .following, responsive := false })
            ∧ (s.sc.station = .hold → (cfg2 s).rest = .holdPosition → t.stu = atRestIn .resting s.stu)
            ∧ (s.sc.station = .joining → t.stu = atRestIn .resting s.stu))
      ∧ (s.sc.station = .safe → t.stu = atRestIn .resting s.stu)
      ∧ t.dch = coilRequests s.dch t.stu.reqPort t.stu.reqStbd := by
  intro t
  have ht : t = commitStu (settle u s.stu) u := by
    rw [← hstu]
    exact if_pos (hstu ▸ hst)
  have hcfg : cfg2 u = cfg2 s := by rw [cfg2, hsc, cfg2]
  rw [← hsc, ← hpins, ← hcfg, ← hdch]
  have hrest {st : RudderState} (hne : st ≠ .following) (h : settle u s.stu = standIn st s.stu) : t.stu = atRestIn st s.stu := by
    rw [ht]
    exact commitStu_settle_standIn hne h
  have hfollow (h : settledState u s.stu.latest = .following) :
      t.stu = { s.stu with state := .following, responsive := u.sc.station == .run } := by
    rw [ht, settle_following h]
    rfl
  refine ⟨fun hj hin => hrest nofun (settle_stopped hj hin), fun hj hin ⟨r, hr, hnone⟩ =>
      hrest nofun (settle_blind hj hin hr hnone), fun hin hs => ?_, fun hsafe => ?_, by rw [ht]; rfl⟩
  · have hsettled (hj : joined u.sc.station = true) := settledState_sighted hj hin hs
    refine ⟨fun hst => ?_, fun hst hr => ?_, fun hst hr => ?_, fun hst => ?_⟩ <;>
      have hsettled := hsettled (by rw [hst]; rfl) <;> simp only [hst] at hsettled
    · rw [hfollow hsettled, hst]
      rfl
    · rw [hfollow (by simpa [hr] using hsettled), hst]
      rfl
    · exact hrest nofun (settle_resting (by simpa [hr] using hsettled))
    · exact hrest nofun (settle_resting hsettled)
  · exact hrest nofun (settle_resting (if_pos (.inr hsafe)))

/-- The alarms acknowledged: each named one that no condition holds is cleared (R143, R145). -/
def alarmsAcked (s : State) (mask : Nat) : State := onLatched (ackLatched s mask) s

/-- ACK_ALARMS addressed to this station. -/
theorem ackAlarms_here {s : State} {f : Frame} (hadm : admits s f) (hf : f.cls = clsCommand) (hk : f.byte0 = 6)
    (h : addressed (taken s) (getU 1 1 f.payload) = true) :
    exec .ackAlarms s =
      .next
        (if s.tau.latched.rudderJam = true ∧ (getU 4 2 f.payload).testBit 6 = true ∧ s.stu.state = .jammed then
          stuAckJam (alarmsAcked (taken s) (getU 4 2 f.payload))
        else alarmsAcked (taken s) (getU 4 2 f.payload)) := by
  have hidle (u : State) (hu : u.stu.state ≠ .jammed) : stuAckJam u = u := if_neg hu
  rw [exec_admitted (c := .ackAlarms) hadm (ofKind_of_byte0 (k := .ackAlarms) hf (by rw [hk]; rfl))]
  simp only [ownerOf, ownAck, h]
  refine congrArg Host.Outcome.next ?_
  change (if (s.tau.latched.rudderJam && (getU 4 2 f.payload).testBit 6) = true then
    stuAckJam (alarmsAcked (taken s) (getU 4 2 f.payload)) else alarmsAcked (taken s) (getU 4 2 f.payload)) = _
  by_cases hst : s.stu.state = .jammed
  · simp only [hst, and_true, Bool.and_eq_true]
  · rw [hidle (alarmsAcked (taken s) (getU 4 2 f.payload)) hst, ite_self, if_neg fun hcond => hst hcond.2.2]

/-- What a clearing of RUDDER_JAM leaves of TAU. -/
theorem stuAckJam_tau (s : State) : (stuAckJam s).tau = s.tau := by simp

theorem stuAckJam_onlyChanges (s : State) : onlyChanges [.stu, .dch] s (stuAckJam s) := fun p hp => by
  cases p <;> simp_all [StatePart.same]

theorem ackLatched_eq (s : State) (mask : Nat) (l : Latched) :
    ackLatched s mask l =
      ⟨l.engineFault && !(mask.testBit 2 && decide (s.tsu.cond ≠ .fault)), l.gearFault && !mask.testBit 4,
        l.steerStop && !(mask.testBit 5 && !s.pins.steerStop), l.rudderJam && !mask.testBit 6,
        l.takeupFailedA && !mask.testBit 8, l.takeupFailedB && !mask.testBit 8,
        l.partedA && !(mask.testBit 10 && decide (s.cu.a.state ≠ .parted)),
        l.partedB && !(mask.testBit 10 && decide (s.cu.b.state ≠ .parted)), l.fuelDiscrepancy && !mask.testBit 12,
        l.accountSaturated && !(mask.testBit 13 && !s.fau.kept.flags.saturated),
        l.accountRestarted && !mask.testBit 14⟩ := by
  simp only [ackLatched, bne, beq_eq_decide, decide_not, ne_eq]
  rfl

/-- Settles O40: CLEAR_TRIP's rows, and the acknowledgement with the settling that it may bring. -/
theorem clearTripAndAck : Obligations.ClearTripAndAck := by
  intro s f hadm hf
  have hhere : addressed (taken s) (getU 1 1 f.payload) = true
      ↔ getU 1 1 f.payload = s.sc.number.toNat ∨ getU 1 1 f.payload = 255 := addressed_iff _ _
  rw [← hhere]
  refine ⟨fun hk => ?_, fun hk => ?_⟩
  · rw [clearTrip_rows hadm hf hk]
    refine ⟨fun h => ?_, fun h hl hc => ?_, fun h hl hc hd => ?_, fun h hl hc hd => ?_⟩ <;> refine congrArg _ ?_
    · obtain h | h := h
      · exact if_pos (Bool.eq_false_iff.mpr h)
      · rw [h, if_pos rfl, ite_self]
    all_goals rw [if_neg (by simp [h]), if_neg (by simp [hl])]
    · exact if_pos hc
    all_goals rw [if_neg (by simp [hc])]
    · exact if_pos hd
    · exact if_neg (by simp [hd])
  · refine ⟨fun h => ?_, fun h => ?_⟩
    · rw [exec_admitted (c := .ackAlarms) hadm (ofKind_of_byte0 (k := .ackAlarms) hf (by rw [hk]; rfl))]
      exact congrArg Host.Outcome.next (if_pos (by simpa using h))
    · have hexec := ackAlarms_here hadm hf hk h
      have hacked : onlyChanges [.tbi, .tau] s (alarmsAcked (taken s) (getU 4 2 f.payload)) :=
        fun p hp => by cases p <;> simp_all [StatePart.same, alarmsAcked, onLatched, taken, dequeue]
      have htau : (alarmsAcked (taken s) (getU 4 2 f.payload)).tau =
          { s.tau with latched := ackLatched s (getU 4 2 f.payload) s.tau.latched } := rfl
      split at hexec
      next hcond =>
        refine ⟨_, hexec, by simp [alarmsAcked, onLatched], by rw [stuAckJam_tau, htau],
          by rw [stuAckJam_tau, htau, ackLatched_eq], fun _ => ackedRudder_settles rfl rfl rfl rfl hcond.2.2,
          fun hno => absurd hcond hno, ?_⟩
        exact (hacked.mono (by decide)).trans ((stuAckJam_onlyChanges _).mono (by decide))
      next hcond =>
        exact ⟨_, hexec, rfl, rfl, by rw [htau, ackLatched_eq], fun hyes => absurd hyes hcond, fun _ => ⟨rfl, rfl⟩,
          hacked.mono (by decide)⟩

end Sys2Proof.Machine
end

section
/-! PROOFS. The line code and the payloads read back (R174, R183, R186, R205 to R210). -/

namespace Sys2Proof.Machine

open Sys2Proof

/-! ### The line code (R174, R183, R205) -/

@[simp] theorem bitsOf_length (w n : Nat) : (bitsOf w n).length = w := by simp [bitsOf]

/-- The bits of a number from its half: the lowest comes last. -/
theorem bitsOf_succ (w n : Nat) : bitsOf (w + 1) n = bitsOf w (n / 2) ++ [n.testBit 0] := by
  rw [bitsOf, bitsOf, List.range_succ, List.map_append, List.map_singleton]
  congr 1
  · refine List.map_congr_left fun i hi => ?_
    have hi : i < w := List.mem_range.mp hi
    rw [show w + 1 - 1 - i = (w - 1 - i) + 1 by omega, Nat.testBit_succ]
  · rw [Nat.add_sub_cancel, Nat.sub_self]

theorem natOfBits_append (bs : List Bool) (b : Bool) : natOfBits (bs ++ [b]) = 2 * natOfBits bs + b.toNat := by
  simp [natOfBits]

/-- The bits of a number spell it, modulo the width. -/
theorem natOfBits_bitsOf (w n : Nat) : natOfBits (bitsOf w n) = n % 2 ^ w := by
  induction w generalizing n with
  | zero => simp [bitsOf, natOfBits, Nat.mod_one]
  | succ w ih =>
    rw [bitsOf_succ, natOfBits_append, ih, pow_succ', Nat.mod_mul, Nat.testBit_zero, Nat.add_comm]
    congr 1
    rcases Nat.mod_two_eq_zero_or_one n with h | h <;> simp [h]

theorem natOfBits_bitsOf_toNat {w : Nat} (x : BitVec w) : BitVec.ofNat w (natOfBits (bitsOf w x.toNat)) = x := by
  rw [natOfBits_bitsOf, Nat.mod_eq_of_lt x.isLt, BitVec.ofNat_toNat, BitVec.setWidth_eq]

@[simp] theorem bitsOfBytes_length (p : List Byte) : (bitsOfBytes p).length = 8 * p.length := by
  induction p with
  | nil => rfl
  | cons b p ih =>
    rw [bitsOfBytes, List.flatMap_cons, List.length_append, ← bitsOfBytes, ih, bitsOf_length, List.length_cons]
    omega

/-- Bytes are read back from their bits, whatever follows. -/
theorem bytesOfBits_bitsOfBytes (p : List Byte) (rest : List Bool) : bytesOfBits p.length (bitsOfBytes p ++ rest) = p := by
  induction p with
  | nil => rfl
  | cons b p ih =>
    rw [bitsOfBytes, List.flatMap_cons, ← bitsOfBytes, List.length_cons, List.append_assoc, bytesOfBits,
      List.take_left' (bitsOf_length _ _), List.drop_left' (bitsOf_length _ _), ih, natOfBits_bitsOf_toNat]

section
variable {f : Frame} (hf : f.payload.length ≤ 63)

theorem frameBody_length (f : Frame) : (frameBody f).length = 15 + 8 * f.payload.length := by
  simp [frameBody]
  omega

include hf in
/-- The header and the payload of a frame are read from its body, whatever follows. -/
theorem frameBody_read (rest : List Bool) :
    natOfBits (((frameBody f ++ rest).drop 9).take 6) = f.payload.length
      ∧ BitVec.ofNat 4 (natOfBits ((frameBody f ++ rest).take 4)) = f.cls
      ∧ BitVec.ofNat 5 (natOfBits (((frameBody f ++ rest).drop 4).take 5)) = f.sender
      ∧ bytesOfBits f.payload.length ((frameBody f ++ rest).drop 15) = f.payload := by
  have hbody : frameBody f ++ rest =
      bitsOf 4 f.cls.toNat ++ (bitsOf 5 f.sender.toNat ++ (bitsOf 6 f.payload.length ++ (bitsOfBytes f.payload ++ rest))) := by
    simp only [frameBody, List.append_assoc]
  have hcls := bitsOf_length 4 f.cls.toNat
  have hsender := bitsOf_length 5 f.sender.toNat
  have hlen := bitsOf_length 6 f.payload.length
  rw [hbody]
  refine ⟨?_, ?_, ?_, ?_⟩
  · rw [show 9 = 4 + 5 by rfl, ← List.drop_drop, List.drop_left' hcls, List.drop_left' hsender, List.take_left' hlen,
      natOfBits_bitsOf, Nat.mod_eq_of_lt (by omega)]
  · rw [List.take_left' hcls, natOfBits_bitsOf_toNat]
  · rw [List.drop_left' hcls, List.take_left' hsender, natOfBits_bitsOf_toNat]
  · rw [show 15 = 4 + (5 + 6) by rfl, ← List.drop_drop, ← List.drop_drop, List.drop_left' hcls, List.drop_left' hsender,
      List.drop_left' hlen, bytesOfBits_bitsOfBytes]

include hf in
/-- A frame with a check word at its end: passed by the check word, then by the length of its class. -/
theorem lineCheck_body (w : BitVec 16) :
    lineCheck (frameBody f ++ bitsOf 16 w.toNat) =
      if w ≠ crcBits (frameBody f) then .crcError
      else if lengthValid f.cls f.payload then .passes f else .lengthError := by
  obtain ⟨hlen, hcls, hsender, hpayload⟩ := frameBody_read hf (bitsOf 16 w.toNat)
  have hbody := frameBody_length f
  unfold lineCheck
  simp only [hlen, ← hbody, hcls, hsender, hpayload, List.take_left', List.drop_left']
  rw [if_neg (by simp), List.take_of_length_le (by simp), natOfBits_bitsOf_toNat]

/-- A frame too short for its own length field is a CRC error (R183). -/
theorem lineCheck_short {bits : List Bool} (h : bits.length < 15 + 8 * natOfBits ((bits.drop 9).take 6) + 16) :
    lineCheck bits = .crcError := if_pos h

end

/-- Settles O7: the frame read back, a wrong check word, and a frame cut short. -/
theorem lineCodeRoundTrip : Obligations.LineCodeRoundTrip := by
  intro f hf
  refine ⟨?_, fun w hw => ?_, fun n hn => lineCheck_short ?_⟩
  · rw [frameBits, lineCheck_body hf, if_neg (not_not.mpr rfl)]
  · rw [lineCheck_body hf, if_pos hw]
  · obtain ⟨hlen, -⟩ := frameBody_read hf (bitsOf 16 (crcBits (frameBody f)).toNat)
    have htotal : (frameBits f).length = 15 + 8 * f.payload.length + 16 := by simp [frameBits, frameBody_length]
    rw [List.length_take, min_eq_left hn.le]
    by_cases hlong : n < 31
    · omega
    · have hsame : (((frameBits f).take n).drop 9).take 6 = ((frameBits f).drop 9).take 6 := by
        rw [List.drop_take, List.take_take, min_eq_left (by omega)]
      rw [hsame, frameBits, hlen, ← htotal]
      exact hn

/-! ### Fields and payloads (R186, R205 to R208, R210) -/

/-- The number that a list of bytes spells, from a number before it. -/
def spelled (v : Nat) (p : List Byte) : Nat := p.foldl (fun v b => 256 * v + b.toNat) v

theorem natOfBits_split (bs : List Bool) (v : Nat) :
    bs.foldl (fun n b => 2 * n + b.toNat) v = 2 ^ bs.length * v + natOfBits bs := by
  induction bs using List.reverseRecOn with
  | nil => simp [natOfBits]
  | append_singleton bs b ih =>
    rw [natOfBits_append, List.foldl_append, ih, List.length_append, List.length_singleton, pow_succ']
    simp only [List.foldl_cons, List.foldl_nil]
    ring

theorem natOfBits_lt (bs : List Bool) : natOfBits bs < 2 ^ bs.length := by
  induction bs using List.reverseRecOn with
  | nil => simp [natOfBits]
  | append_singleton bs b ih =>
    rw [natOfBits_append, List.length_append, List.length_singleton, pow_succ']
    have := Bool.toNat_le b
    omega

@[simp] theorem bytesOfBits_length (k : Nat) (bs : List Bool) : (bytesOfBits k bs).length = k := by
  induction k generalizing bs with
  | zero => rfl
  | succ k ih => rw [bytesOfBits, List.length_cons, ih]

/-- Bytes spell the number that their bits spell. -/
theorem spelled_bytesOfBits (k : Nat) (bs : List Bool) (h : bs.length = 8 * k) (v : Nat) :
    spelled v (bytesOfBits k bs) = 256 ^ k * v + natOfBits bs := by
  induction k generalizing bs v with
  | zero =>
    obtain rfl : bs = [] := List.eq_nil_of_length_eq_zero h
    simp [spelled, bytesOfBits, natOfBits]
  | succ k ih =>
    have htake : (bs.take 8).length = 8 := by simp; omega
    have hbyte : natOfBits (bs.take 8) < 2 ^ 8 := (natOfBits_lt (bs.take 8)).trans_eq (by rw [htake])
    have hrest : (bs.drop 8).length = 8 * k := by simp; omega
    have hsplit : natOfBits bs = 2 ^ (8 * k) * natOfBits (bs.take 8) + natOfBits (bs.drop 8) := by
      conv_lhs => rw [natOfBits, ← List.take_append_drop 8 bs, List.foldl_append]
      rw [natOfBits_split, hrest]
      rfl
    rw [bytesOfBits, spelled, List.foldl_cons, ← spelled, ih _ hrest, hsplit, BitVec.toNat_ofNat, Nat.mod_eq_of_lt hbyte,
      pow_mul]
    ring

@[simp] theorem putU_length (n v : Nat) : (putU n v).length = n := bytesOfBits_length _ _

@[simp] theorem putS_length (n : Nat) (v : Int) : (putS n v).length = n := putU_length _ _

/-- A field is read at its place, whatever follows. -/
theorem getU_putU (n v : Nat) (rest : List Byte) : getU n 0 (putU n v ++ rest) = v % 2 ^ (8 * n) := by
  have hspelled : getU n 0 (putU n v ++ rest) = spelled 0 (putU n v) := by
    rw [getU, List.drop_zero, List.take_left' (putU_length n v), spelled]
  rw [hspelled, putU, spelled_bytesOfBits _ _ (bitsOf_length _ _), Nat.mul_zero, Nat.zero_add, natOfBits_bitsOf]

/-- A field is read past the bytes before it. -/
theorem getU_append {n i : Nat} (p q : List Byte) (h : p.length ≤ i) : getU n i (p ++ q) = getU n (i - p.length) q := by
  rw [getU, getU, List.drop_append, List.drop_eq_nil_of_le h, List.nil_append]

/-- A signed field is read at its place. -/
theorem getS_putS {n : Nat} {v : Int} (hn : 0 < n) (hlow : -(2 ^ (8 * n - 1) : Nat) ≤ v)
    (hhigh : v < (2 ^ (8 * n - 1) : Nat)) (rest : List Byte) : getS n 0 (putS n v ++ rest) = v := by
  have hpow : 2 ^ (8 * n) = 2 * 2 ^ (8 * n - 1) := by
    rw [← pow_succ', Nat.sub_add_cancel (by omega)]
  rw [getS, putS, getU_putU, hpow]
  generalize 2 ^ (8 * n - 1) = m at hlow hhigh
  have hcases : v % ((2 * m : Nat) : Int) = if 0 ≤ v then v else v + (2 * m : Nat) := by
    split
    · exact Int.emod_eq_of_lt ‹_› (by omega)
    · rw [← Int.add_emod_right, Int.emod_eq_of_lt (by omega) (by omega)]
  rw [hcases]
  split <;> rw [Nat.mod_eq_of_lt (by omega)] <;> split <;> omega

/-! #### Reading a payload field by field -/

theorem getU_last (n v : Nat) : getU n 0 (putU n v) = v % 2 ^ (8 * n) := by
  simpa using getU_putU n v []

theorem getS_last {n : Nat} {v : Int} (hn : 0 < n) (hlow : -(2 ^ (8 * n - 1) : Nat) ≤ v)
    (hhigh : v < (2 ^ (8 * n - 1) : Nat)) : getS n 0 (putS n v) = v := by
  simpa using getS_putS hn hlow hhigh []

theorem getU_past {n i m : Nat} (v : Nat) (rest : List Byte) (h : m ≤ i) :
    getU n i (putU m v ++ rest) = getU n (i - m) rest := by
  simpa using getU_append (n := n) (putU m v) rest (by simpa using h)

theorem getU_pastS {n i m : Nat} (v : Int) (rest : List Byte) (h : m ≤ i) :
    getU n i (putS m v ++ rest) = getU n (i - m) rest := getU_past _ rest h

theorem getS_past {n i m : Nat} (v : Nat) (rest : List Byte) (h : m ≤ i) :
    getS n i (putU m v ++ rest) = getS n (i - m) rest := by
  rw [getS, getS, getU_past v rest h]

theorem getS_pastS {n i m : Nat} (v : Int) (rest : List Byte) (h : m ≤ i) :
    getS n i (putS m v ++ rest) = getS n (i - m) rest := getS_past _ rest h

theorem getU_here {n v : Nat} (h : v < 2 ^ (8 * n)) (rest : List Byte) : getU n 0 (putU n v ++ rest) = v := by
  rw [getU_putU, Nat.mod_eq_of_lt h]

theorem getU_end {n v : Nat} (h : v < 2 ^ (8 * n)) : getU n 0 (putU n v) = v := by
  rw [getU_last, Nat.mod_eq_of_lt h]

/-- P1 is read from its part (R210). -/
theorem getP1_partOf {x : P1} (h : ∀ g ∈ p1Fields true x, g.fits) :
    getP1 (partOf (p1Fields true x)) = x ∧ (partOf (p1Fields true x)).length = 30 := by
  simp [p1Fields, checkedIf, plainField, signedField, partOf, BlockField.bytes, BlockField.fits] at h ⊢
  simp (disch := omega) only [getP1, getU_here, getU_end, getU_past, getU_pastS, getS_past, getS_putS, Nat.reduceSub]

/-- P2 is read from its part (R210). -/
theorem getP2_partOf {x : P2} {rest : Nat} (hrest : rest < 256) (h : ∀ g ∈ p2Fields rest x, g.fits)
    (hx : x.rest = if rest = 2 then .centre else .holdPosition) :
    getP2 (partOf (p2Fields rest x)) = x ∧ getU 1 17 (partOf (p2Fields rest x)) = rest
      ∧ (partOf (p2Fields rest x)).length = 27 := by
  simp [p2Fields, pairFields, plainField, signedField, partOf, BlockField.bytes, BlockField.fits] at h ⊢
  simp (disch := omega) only [getP2, getPair, getU_here, getU_past, getU_pastS, getS_past, getS_pastS, getS_putS,
    getS_last, ← hx, Nat.reduceAdd, Nat.reduceSub, and_self]

/-- P3 is read from its parts (R210). -/
theorem getP3_partOf {x : P3} (h : ∀ g ∈ p3Fields x ++ p3Pairs x, g.fits) :
    getP3 (partOf (p3Fields x)) (partOf (p3Pairs x)) = x ∧ (partOf (p3Fields x)).length = 24
      ∧ (partOf (p3Pairs x)).length = 16 := by
  simp [p3Fields, p3Pairs, pairFields, plainField, signedField, partOf, BlockField.bytes, BlockField.fits] at h ⊢
  simp (disch := omega) only [getP3, getPair, getU_here, getU_end, getU_past, getU_pastS, getS_past, getS_pastS, getS_putS,
    getS_last, Nat.reduceAdd, Nat.reduceSub]

/-- P5 is read from its part (R210). -/
theorem getP5_partOf {x : P5} (h : ∀ g ∈ p5Fields x, g.fits) :
    getP5 (partOf (p5Fields x)) = x ∧ (partOf (p5Fields x)).length = 18 := by
  simp [p5Fields, leverFields, plainField, partOf, BlockField.bytes, BlockField.fits] at h ⊢
  simp (disch := omega) only [getP5, getLever, getU_here, getU_end, getU_past, Nat.reduceAdd, Nat.reduceSub]

theorem getU_volumes (vs : List Nat) (h : ∀ v ∈ vs, v < 2 ^ 24) (i : Nat) (hi : i < vs.length) :
    getU 3 (3 * i) (vs.flatMap (putU 3)) = vs[i] := by
  induction vs generalizing i with
  | nil => exact absurd hi (by simp)
  | cons v vs ih =>
    rw [List.flatMap_cons]
    cases i with
    | zero => exact getU_here (h v (by simp)) _
    | succ i =>
      rw [getU_past v _ (by omega), show 3 * (i + 1) - 3 = 3 * i by omega, ih (fun u hu => h u (by simp [hu])) i (by simpa using hi)]
      rfl

/-- P4 is read from its parts (R210). -/
theorem getP4_partOf {x : P4} (hlen : x.volumes.length = 11) (h : ∀ g ∈ p4Fields x ++ p4Volumes x, g.fits) :
    getP4 (partOf (p4Fields x)) (partOf (p4Volumes x)) = x ∧ (partOf (p4Fields x)).length = 31
      ∧ (partOf (p4Volumes x)).length = 33 := by
  rw [List.forall_mem_append] at h
  obtain ⟨h, hvol⟩ := h
  have hpart : partOf (p4Volumes x) = x.volumes.flatMap (putU 3) := by
    simp [p4Volumes, partOf, List.flatMap_map, BlockField.bytes, plainField]
  have hfits : ∀ v ∈ x.volumes, v < 2 ^ 24 := by
    simp [p4Volumes, BlockField.fits, plainField] at hvol
    intro v hv
    have := hvol v hv
    omega
  have hvolumes : (List.range 11).map (fun i => getU 3 (3 * i) (x.volumes.flatMap (putU 3))) = x.volumes := by
    refine List.ext_getElem (by simp [hlen]) fun i hi hi' => ?_
    simp only [List.getElem_map, List.getElem_range, getU_volumes x.volumes hfits i hi']
  rw [hpart]
  refine ⟨?_, ?_, by simp [List.length_flatMap, hlen]⟩ <;>
    simp [p4Fields, pairFields, plainField, signedField, partOf, BlockField.bytes, BlockField.fits] at h ⊢
  simp (disch := omega) only [getP4, hvolumes, getPair, getU_here, getU_past, getU_pastS, getS_past, getS_pastS, getS_putS,
    getS_last, Nat.reduceAdd, Nat.reduceSub]

/-! #### The parts of a STATUS (R186, R208) -/

theorem fittedOf_fittedCode (f : Fitted) : fittedOf (fittedCode f) = f := by
  obtain ⟨e, r, a, b, h⟩ := f
  revert e r a b h
  decide

theorem fittedCode_lt (f : Fitted) : fittedCode f < 32 := by
  obtain ⟨e, r, a, b, h⟩ := f
  revert e r a b h
  decide

theorem flagsOf_flagsCode (f : LegFlags) : flagsOf (flagsCode f) = f ∧ flagsCode f < 64 := by
  obtain ⟨a, b, c, d, e, g⟩ := f
  revert a b c d e g
  decide

theorem condOf_condCode (c : EngineCond) : condOf (condCode c) = some c ∧ condCode c < 3 := by cases c <;> decide

theorem winchStateOf_code (x : WinchState) : winchStateOf (winchStateCode x) = some x ∧ winchStateCode x < 11 := by
  cases x <;> decide

theorem helmOf_helmCode (h : HelmState) : helmOf (helmCode h) = some h ∧ helmCode h < 3 := by cases h <;> decide

theorem declineOf_declineCode (d : Option Decline) : declineOf (declineCode d) = some d ∧ declineCode d < 3 := by
  obtain - | d := d
  · decide
  · cases d <;> decide

theorem blockOf_blockCode (b : Option Block) : blockOf (blockCode b) = some b ∧ blockCode b < 6 := by
  obtain - | b := b
  · decide
  · cases b <;> decide

theorem reasonOf_reasonCode (r : Option Reason) : reasonOf (reasonCode r) = some r ∧ reasonCode r < 16 := by
  obtain - | r := r
  · decide
  · cases r <;> decide

theorem stationOf_stationCode {x : StationState} (h : x = .joining ∨ x = .run ∨ x = .hold) :
    stationOf (stationCode x) = some x ∧ stationCode x ≠ 0 ∧ stationCode x < 4 := by
  obtain rfl | rfl | rfl := h <;> decide

theorem getEngine_putEngine {e : EnginePart} (h : e.power ≤ 65535 ∧ -32768 ≤ e.sp ∧ e.sp ≤ 32767) :
    getEngine (putEngine e) = { e with power := min 8000 e.power, sp := max (-8000) (min 8000 e.sp) }
      ∧ (condOf (getU 1 4 (putEngine e))).isSome = true ∧ (putEngine e).length = 5 := by
  obtain ⟨hof, hlt⟩ := condOf_condCode e.cond
  have hcond : getU 1 4 (putEngine e) = condCode e.cond := by
    simp only [putEngine, List.append_assoc]
    simp (disch := omega) only [getU_past, getU_pastS, getU_end, Nat.reduceSub]
  refine ⟨?_, by rw [hcond, hof]; rfl, by simp [putEngine]⟩
  rw [getEngine, hcond, hof]
  simp only [putEngine, List.append_assoc]
  simp (disch := omega) only [getU_here, getS_past, getS_putS, Nat.reduceSub, clampInt, Option.getD_some]

theorem getRudder_putRudder {r : RudderPart} (h : -32768 ≤ r.angle ∧ r.angle ≤ 32767 ∧ r.gain ≤ 65535) :
    getRudder (putRudder r) = { r with angle := max (-1800) (min 1800 r.angle), gain := min 1000 r.gain }
      ∧ getU 1 4 (putRudder r) ≤ 1 ∧ (putRudder r).length = 5 := by
  have hle := Bool.toNat_le r.responsive
  have hflag : getU 1 4 (putRudder r) = r.responsive.toNat := by
    simp only [putRudder, List.append_assoc]
    simp (disch := omega) only [getU_past, getU_pastS, getU_end, Nat.reduceSub]
  refine ⟨?_, hflag ▸ hle, by simp [putRudder]⟩
  rw [getRudder, hflag]
  simp only [putRudder, List.append_assoc]
  simp (disch := omega) only [getU_here, getU_pastS, getS_putS, Nat.reduceSub, clampInt]
  cases r.responsive <;> rfl

theorem getOptU_read {n i : Nat} {p : List Byte} {x : Option Nat} (h : getU n i p = x.getD (2 ^ (8 * n) - 1))
    (hx : ∀ k, x = some k → k < 2 ^ (8 * n) - 1) : getOptU n i p = x := by
  rw [getOptU, h]
  cases x with
  | none => simp
  | some k => simp [(hx k rfl).ne]

theorem getWinch_putWinch (limit : Nat) {w : WinchPart} (h : w.tension ≤ 65535 ∧ ∀ k, w.cap = some k → k < 65535) :
    getWinch limit (putWinch w) = { w with tension := min 4000 w.tension, cap := w.cap.map (min limit) }
      ∧ (winchStateOf (getU 1 0 (putWinch w))).isSome = true ∧ (putWinch w).length = 5 := by
  obtain ⟨hof, hlt⟩ := winchStateOf_code w.state
  have hstate : getU 1 0 (putWinch w) = winchStateCode w.state := by
    simp only [putWinch, List.append_assoc]
    simp (disch := omega) only [getU_here]
  have hcap : getOptU 2 3 (putWinch w) = w.cap := by
    refine getOptU_read ?_ h.2
    have : w.cap.getD 65535 ≤ 65535 := by
      cases hc : w.cap with
      | none => simp
      | some k => exact (h.2 k hc).le
    simp only [putWinch, putOptU, List.append_assoc]
    simp (disch := omega) only [getU_past, Nat.reduceSub]
    exact getU_end (Nat.lt_succ_of_le this)
  refine ⟨?_, by rw [hstate, hof]; rfl, by simp [putWinch, putOptU]⟩
  rw [getWinch, hstate, hof, getCap, hcap]
  simp only [putWinch, List.append_assoc]
  simp (disch := omega) only [getU_past, getU_here, Nat.reduceSub, Option.getD_some]

theorem getHelm_putHelm (h : HelmPart) :
    getHelm (putHelm h) = h ∧ (helmOf (getU 1 0 (putHelm h))).isSome = true
      ∧ (declineOf (getU 1 3 (putHelm h))).isSome = true ∧ (putHelm h).length = 4 := by
  obtain ⟨hof, hlt⟩ := helmOf_helmCode h.state
  obtain ⟨hdof, hdlt⟩ := declineOf_declineCode h.decline
  have hepoch := h.epoch.isLt
  have hread : getU 1 0 (putHelm h) = helmCode h.state ∧ getU 2 1 (putHelm h) = h.epoch.toNat
      ∧ getU 1 3 (putHelm h) = declineCode h.decline := by
    simp only [putHelm, List.append_assoc]
    simp (disch := omega) only [getU_here, getU_past, getU_end, Nat.reduceSub, and_self]
  obtain ⟨hs, he, hd⟩ := hread
  refine ⟨?_, by rw [hs, hof]; rfl, by rw [hd, hdof]; rfl, by simp [putHelm]⟩
  rw [getHelm, hs, he, hd, hof, hdof]
  simp

/-! #### STATUS payloads (R186, R208) -/

/-- The next part of a payload that begins with it. -/
theorem cutPart_put {α : Type} {put : α → List Byte} {x : Option α} {on : Bool} {n : Nat} (rest : List Byte)
    (hon : x.isSome = on) (hlen : ∀ e, x = some e → (put e).length = n) :
    cutPart on n (putPart put x ++ rest) = (x.map put, rest) := by
  subst hon
  cases x with
  | none => rfl
  | some e => simp [cutPart, putPart, ← hlen e rfl]

theorem putPart_length {α : Type} {put : α → List Byte} {x : Option α} {on : Bool} {n : Nat} (hon : x.isSome = on)
    (hlen : ∀ e, x = some e → (put e).length = n) : (putPart put x).length = n * on.toNat := by
  subst hon
  cases x with
  | none => rfl
  | some e => simp [putPart, hlen e rfl]

/-- A full STATUS whose parts are those of its fitted mask. -/
structure StatusShaped (r : FullStatus) : Prop where
  engine : r.engine.isSome = r.fitted.engine
  rudder : r.rudder.isSome = r.fitted.rudder
  winchA : r.winchA.isSome = r.fitted.winchA
  winchB : r.winchB.isSome = r.fitted.winchB
  helm   : r.helm.isSome = r.fitted.helm

theorem putEngine_length (e : EnginePart) : (putEngine e).length = 5 := by simp [putEngine]

theorem putRudder_length (r : RudderPart) : (putRudder r).length = 5 := by simp [putRudder]

theorem putWinch_length (w : WinchPart) : (putWinch w).length = 5 := by simp [putWinch, putOptU]

theorem putHelm_length (h : HelmPart) : (putHelm h).length = 4 := by simp [putHelm]

section
variable {r : FullStatus} (hst : r.reported = .joining ∨ r.reported = .run ∨ r.reported = .hold) (hperiod : r.period ≤ 255)
include hst hperiod

/-- The first seven bytes of a full STATUS. -/
theorem putFullStatus_head :
    getU 1 0 (putFullStatus r) = stationCode r.reported ∧ getU 1 1 (putFullStatus r) = fittedCode r.fitted
      ∧ getU 1 2 (putFullStatus r) = r.period ∧ getU 4 3 (putFullStatus r) = r.alarms.toNat := by
  have hcode := (stationOf_stationCode hst).2.2
  have hmask := fittedCode_lt r.fitted
  have halarms := r.alarms.isLt
  simp only [putFullStatus, List.append_assoc]
  simp (disch := omega) only [getU_here, getU_past, Nat.reduceSub, and_self]

end

theorem putFullStatus_drop (r : FullStatus) :
    (putFullStatus r).drop 7 =
      putPart putEngine r.engine ++ (putPart putRudder r.rudder ++ (putPart putWinch r.winchA
        ++ (putPart putWinch r.winchB ++ (putPart putHelm r.helm ++ [])))) := by
  simp only [putFullStatus, List.append_assoc, List.append_nil]
  rw [show 7 = 1 + (1 + (1 + 4)) by rfl, ← List.drop_drop, ← List.drop_drop, ← List.drop_drop,
    List.drop_left' (putU_length _ _), List.drop_left' (putU_length _ _), List.drop_left' (putU_length _ _),
    List.drop_left' (putU_length _ _)]

/-- The parts of a full STATUS are cut out as they were put in. -/
theorem statusParts_putFullStatus {r : FullStatus}
    (hst : r.reported = .joining ∨ r.reported = .run ∨ r.reported = .hold) (hperiod : r.period ≤ 255)
    (hshape : StatusShaped r) :
    statusParts (putFullStatus r) =
      ⟨r.engine.map putEngine, r.rudder.map putRudder, r.winchA.map putWinch, r.winchB.map putWinch, r.helm.map putHelm⟩ := by
  obtain ⟨-, hmask, -, -⟩ := putFullStatus_head hst hperiod
  simp only [statusParts, hmask, fittedOf_fittedCode, putFullStatus_drop,
    cutPart_put _ hshape.engine fun e _ => putEngine_length e, cutPart_put _ hshape.rudder fun e _ => putRudder_length e,
    cutPart_put _ hshape.winchA fun e _ => putWinch_length e, cutPart_put _ hshape.winchB fun e _ => putWinch_length e,
    cutPart_put _ hshape.helm fun e _ => putHelm_length e]

theorem putFullStatus_length {r : FullStatus} (hshape : StatusShaped r) :
    (putFullStatus r).length = 7 + partsLength r.fitted := by
  have hparts : ((putFullStatus r).drop 7).length = partsLength r.fitted := by
    rw [putFullStatus_drop]
    simp only [List.length_append, List.length_nil, partsLength, putPart_length hshape.engine fun e _ => putEngine_length e,
      putPart_length hshape.rudder fun e _ => putRudder_length e, putPart_length hshape.winchA fun e _ => putWinch_length e,
      putPart_length hshape.winchB fun e _ => putWinch_length e, putPart_length hshape.helm fun e _ => putHelm_length e]
    omega
  have hlong : 7 ≤ (putFullStatus r).length := by simp [putFullStatus]; omega
  rw [List.length_drop] at hparts
  omega

/-- A full STATUS whose fields fit their bytes. -/
structure StatusFits (r : FullStatus) : Prop where
  engine : ∀ e, r.engine = some e → e.power ≤ 65535 ∧ -32768 ≤ e.sp ∧ e.sp ≤ 32767
  rudder : ∀ e, r.rudder = some e → -32768 ≤ e.angle ∧ e.angle ≤ 32767 ∧ e.gain ≤ 65535
  winch  : ∀ w, r.winchA = some w ∨ r.winchB = some w → w.tension ≤ 65535 ∧ ∀ k, w.cap = some k → k < 65535

theorem map_map_of {α β γ : Type} {x : Option α} {put : α → β} {get : β → γ} {out : α → γ}
    (h : ∀ e, x = some e → get (put e) = out e) : (x.map put).map get = x.map out := by
  cases x with
  | none => rfl
  | some e => exact congrArg some (h e rfl)

theorem getStatus_putFullStatus (limit : Nat) {r : FullStatus}
    (hst : r.reported = .joining ∨ r.reported = .run ∨ r.reported = .hold) (hperiod : r.period ≤ 255)
    (hshape : StatusShaped r) (hfits : StatusFits r) :
    getStatus limit (putFullStatus r) = .full (clampedStatus limit r) := by
  obtain ⟨hcode, hmask, hper, halarms⟩ := putFullStatus_head hst hperiod
  obtain ⟨hof, hne, -⟩ := stationOf_stationCode hst
  rw [getStatus, hcode, if_neg hne, statusParts_putFullStatus hst hperiod hshape, hmask, hper, halarms, hof,
    fittedOf_fittedCode]
  simp only [clampedStatus, map_map_of fun e he => (getEngine_putEngine (hfits.engine e he)).1,
    map_map_of fun e he => (getRudder_putRudder (hfits.rudder e he)).1,
    map_map_of fun e he => (getWinch_putWinch limit (hfits.winch e (.inl he))).1,
    map_map_of fun e he => (getWinch_putWinch limit (hfits.winch e (.inr he))).1]
  rw [map_map_of fun e _ => (getHelm_putHelm e).1]
  simp [clampNat]

theorem lengthValid_status (p : List Byte) :
    lengthValid clsStatus p = if getU 1 0 p = 0 then p.length == 5 else p.length == 7 + partsLength (fittedOf (getU 1 1 p)) :=
  rfl

theorem partNames_map {α : Type} {x : Option α} {put : α → List Byte} {ok : List Byte → Bool}
    (h : ∀ e, x = some e → ok (put e) = true) : partNames (x.map put) ok = true := by
  cases x with
  | none => rfl
  | some e => exact h e rfl

theorem putFullStatus_valid {r : FullStatus}
    (hst : r.reported = .joining ∨ r.reported = .run ∨ r.reported = .hold) (hperiod : r.period ≤ 255)
    (hshape : StatusShaped r) (hfits : StatusFits r) :
    lengthValid clsStatus (putFullStatus r) = true ∧ statusFieldsOk (putFullStatus r) = true := by
  obtain ⟨hcode, hmask, -, -⟩ := putFullStatus_head hst hperiod
  obtain ⟨hof, hne, -⟩ := stationOf_stationCode hst
  refine ⟨?_, ?_⟩
  · rw [lengthValid_status, hcode, if_neg hne, hmask, fittedOf_fittedCode, putFullStatus_length hshape, beq_self_eq_true]
  · rw [statusFieldsOk, hcode, if_neg hne, statusParts_putFullStatus hst hperiod hshape, hof]
    simp only [Bool.and_eq_true, Option.isSome_some, true_and]
    refine ⟨⟨⟨⟨partNames_map fun e he => ?_, partNames_map fun e he => ?_⟩, partNames_map fun e he => ?_⟩,
      partNames_map fun e he => ?_⟩, partNames_map fun e _ => ?_⟩
    · exact (getEngine_putEngine (hfits.engine e he)).2.1
    · exact decide_eq_true (getRudder_putRudder (hfits.rudder e he)).2.1
    · exact (getWinch_putWinch 0 (hfits.winch e (.inl he))).2.1
    · exact (getWinch_putWinch 0 (hfits.winch e (.inr he))).2.1
    · obtain ⟨-, hh, hd, -⟩ := getHelm_putHelm e
      rw [Bool.and_eq_true]
      exact ⟨hh, hd⟩

theorem option_map_self {α : Type} {f : α → α} {x : Option α} (h : ∀ e, x = some e → f e = e) : x.map f = x := by
  cases x with
  | none => rfl
  | some e => exact congrArg some (h e rfl)

/-- A full STATUS within its ranges is not changed by the clamping. -/
theorem clampedStatus_self {limit : Nat} {r : FullStatus} (hlow : 2 ≤ r.period) (hhigh : r.period ≤ 10)
    (hengine : ∀ e, r.engine = some e → e.power ≤ 8000 ∧ e.sp.natAbs ≤ 8000)
    (hrudder : ∀ e, r.rudder = some e → e.angle.natAbs ≤ 1800 ∧ e.gain ≤ 1000)
    (hwinch : ∀ w, r.winchA = some w ∨ r.winchB = some w → w.tension ≤ 4000 ∧ ∀ k, w.cap = some k → k ≤ limit) :
    clampedStatus limit r = r := by
  have hw (w : WinchPart) (h : w.tension ≤ 4000 ∧ ∀ k, w.cap = some k → k ≤ limit) :
      { w with tension := min 4000 w.tension, cap := w.cap.map (min limit) } = w := by
    rw [min_eq_right h.1, option_map_self fun k hk => min_eq_right (h.2 k hk)]
  have he (e : EnginePart) (h : e.power ≤ 8000 ∧ e.sp.natAbs ≤ 8000) :
      { e with power := min 8000 e.power, sp := max (-8000) (min 8000 e.sp) } = e := by
    rw [min_eq_right h.1, show max (-8000) (min 8000 e.sp) = e.sp by omega]
  have hr (e : RudderPart) (h : e.angle.natAbs ≤ 1800 ∧ e.gain ≤ 1000) :
      { e with angle := max (-1800) (min 1800 e.angle), gain := min 1000 e.gain } = e := by
    rw [min_eq_right h.2, show max (-1800) (min 1800 e.angle) = e.angle by omega]
  rw [clampedStatus, show max 2 (min 10 r.period) = r.period by omega,
    option_map_self fun e h => he e (hengine e h), option_map_self fun e h => hr e (hrudder e h),
    option_map_self fun w h => hw w (hwinch w (.inl h)), option_map_self fun w h => hw w (hwinch w (.inr h))]

/-- A short STATUS is read back as it was written. -/
theorem shortStatus_reads (limit : Nat) (m : Fitted) (k : CommPart) :
    getStatus limit (putShortStatus m k) = .short m k ∧ lengthValid clsStatus (putShortStatus m k) = true
      ∧ statusFieldsOk (putShortStatus m k) = true := by
  obtain ⟨hbof, hblt⟩ := blockOf_blockCode k.block
  obtain ⟨hrof, hrlt⟩ := reasonOf_reasonCode k.reason
  have hmlt := fittedCode_lt m
  have haccepted := k.accepted.isLt
  have hread : getU 1 0 (putShortStatus m k) = 0 ∧ getU 1 1 (putShortStatus m k) = fittedCode m
      ∧ getU 1 2 (putShortStatus m k) = k.accepted.toNat ∧ getU 1 3 (putShortStatus m k) = blockCode k.block
      ∧ getU 1 4 (putShortStatus m k) = reasonCode k.reason := by
    simp only [putShortStatus, stationCode, List.append_assoc]
    simp (disch := omega) only [getU_here, getU_past, getU_end, Nat.reduceSub, and_self]
  obtain ⟨hlisten, hmask, hacc, hblock, hreason⟩ := hread
  refine ⟨?_, ?_, ?_⟩
  · rw [getStatus, hlisten, if_pos rfl, hmask, hacc, hblock, hreason, hbof, hrof, fittedOf_fittedCode]
    simp
  · rw [lengthValid_status, hlisten, if_pos rfl]
    simp [putShortStatus]
  · rw [statusFieldsOk, hlisten, if_pos rfl, hblock, hreason, hbof, hrof]
    rfl

/-! #### ACCOUNT payloads (R207) -/

theorem getOptS_read {n i : Nat} {p : List Byte} {x : Option Int} (h : getS n i p = x.getD (-(2 ^ (8 * n - 1) : Nat)))
    (hx : ∀ k, x = some k → -(2 ^ (8 * n - 1) : Nat) < k) : getOptS n i p = x := by
  rw [getOptS, h]
  cases x with
  | none => simp
  | some k => exact if_neg (hx k rfl).ne'

/-- An ACCOUNT is read back as it was written. -/
theorem account_reads {a : Account} (hlow : -2147483648 ≤ a.consumed) (hhigh : a.consumed ≤ 2147483647)
    (hfill : a.fill ≤ 4294967295) (hv : ∀ v, a.vOpen = some v ∨ a.vNow = some v → v < 4294967295)
    (hd : ∀ d, a.d = some d → -2147483648 < d ∧ d ≤ 2147483647) :
    getAccount (putAccount a) = a ∧ lengthValid clsAccount (putAccount a) = true := by
  obtain ⟨hflags, hflt⟩ := flagsOf_flagsCode a.flags
  have hleg := a.leg.isLt
  have hvol (v : Option Nat) (h : ∀ k, v = some k → k < 4294967295) : v.getD (2 ^ (8 * 4) - 1) < 2 ^ (8 * 4) := by
    cases v with
    | none => decide
    | some k => exact (h k rfl).trans (by decide)
  have hvOpen := hvol a.vOpen fun k hk => hv k (.inl hk)
  have hvNow := hvol a.vNow fun k hk => hv k (.inr hk)
  have hdBound : -2147483648 ≤ a.d.getD (-2147483648) ∧ a.d.getD (-2147483648) ≤ 2147483647 := by
    cases h : a.d with
    | none => decide
    | some d => exact ⟨(hd d h).1.le, (hd d h).2⟩
  have hclosed : (if a.closed then 2 else 1) < 2 ^ (8 * 1) := by split <;> decide
  have hread : getU 1 0 (putAccount a) = (if a.closed then 2 else 1) ∧ getU 2 1 (putAccount a) = a.leg.toNat
      ∧ getS 4 3 (putAccount a) = a.consumed ∧ getU 4 7 (putAccount a) = a.fill
      ∧ getU 4 11 (putAccount a) = a.vOpen.getD (2 ^ (8 * 4) - 1)
      ∧ getU 4 15 (putAccount a) = a.vNow.getD (2 ^ (8 * 4) - 1)
      ∧ getS 4 19 (putAccount a) = a.d.getD (-(2 ^ (8 * 4 - 1) : Nat)) ∧ getU 1 23 (putAccount a) = flagsCode a.flags := by
    have hdBound' : -(2 ^ (8 * 4 - 1) : Nat) ≤ a.d.getD (-(2 ^ (8 * 4 - 1) : Nat))
        ∧ a.d.getD (-(2 ^ (8 * 4 - 1) : Nat)) < (2 ^ (8 * 4 - 1) : Nat) := by
      constructor
      · exact hdBound.1
      · exact Int.lt_of_le_of_lt hdBound.2 (by decide)
    simp only [putAccount, putOptU, putOptS, List.append_assoc]
    generalize a.vOpen.getD (2 ^ (8 * 4) - 1) = vOpen at hvOpen ⊢
    generalize a.vNow.getD (2 ^ (8 * 4) - 1) = vNow at hvNow ⊢
    generalize a.d.getD (-(2 ^ (8 * 4 - 1) : Nat)) = d at hdBound' ⊢
    generalize (if a.closed then 2 else 1) = kind at hclosed ⊢
    simp (disch := omega) only [getU_here, getU_past, getU_pastS, getS_past, getS_pastS, getS_putS, getU_end, Nat.reduceSub,
      and_self]
  obtain ⟨hc, hl, hcons, hf, ho, hn, hdd, hfl⟩ := hread
  refine ⟨?_, ?_⟩
  · rw [getAccount, hc, hl, hcons, hf, hfl, hflags, getOptU_read ho fun k hk => hv k (.inl hk),
      getOptU_read hn fun k hk => hv k (.inr hk), getOptS_read hdd fun k hk => (hd k hk).1]
    have hkind : ((if a.closed then 2 else 1) == 2) = a.closed := by cases a.closed <;> rfl
    rw [hkind]
    simp
  · have hlength : (putAccount a).length = 24 := by simp [putAccount, putOptU, putOptS]
    exact beq_iff_eq.mpr hlength

/-- Settles O54: each payload's fields read at their places. -/
theorem payloadRoundTrips : Obligations.PayloadRoundTrips := by
  refine ⟨fun limit r hst hperiod he hr ha hb hh hfe hfr hfw => ?_, shortStatus_reads,
    fun a hlow hhigh hfill hv hd => account_reads hlow hhigh hfill hv hd, fun x => getP1_partOf,
    fun x rest => getP2_partOf, fun x => getP3_partOf, fun x => getP4_partOf, fun x => getP5_partOf⟩
  have hshape : StatusShaped r := ⟨he, hr, ha, hb, hh⟩
  have hfits : StatusFits r := ⟨hfe, hfr, hfw⟩
  have hread := getStatus_putFullStatus limit hst hperiod hshape hfits
  obtain ⟨hlen, hnames⟩ := putFullStatus_valid hst hperiod hshape hfits
  exact ⟨hread, hlen, hnames, fun h2 h10 hpe hpr hpw => by rw [hread, clampedStatus_self h2 h10 hpe hpr hpw]⟩

end Sys2Proof.Machine
end

section
/-! PROOFS. The alarm set, queries and their replies (R20, R143, R189, R190, R206, R209). -/

namespace Sys2Proof.Machine

open Sys2Proof

/-! ### The alarm set (R143, R206) -/

/-- The number whose bits, lowest first, are a list of flags. -/
def bitSum : List Bool → Nat
  | [] => 0
  | b :: bs => b.toNat + 2 * bitSum bs

theorem bitSum_testBit (bs : List Bool) (i : Nat) : (bitSum bs).testBit i = bs.getD i false := by
  induction bs generalizing i with
  | nil => simp [bitSum]
  | cons b bs ih =>
    cases i with
    | zero => cases b <;> simp [bitSum, Nat.testBit_zero]
    | succ i =>
      have hhalf : bitSum (b :: bs) / 2 = bitSum bs := by
        have := Bool.toNat_le b
        rw [bitSum]
        omega
      rw [Nat.testBit_succ, hhalf, ih, List.getD_cons_succ]

/-- A sum of powers of two at consecutive places, each taken or left out, is a number given by its bits. -/
theorem bitSum_of_consecutive (p : Alarm → Bool) (xs : List Alarm) (k : Nat)
    (h : xs.map alarmBit = List.range' k xs.length) :
    (xs.map fun a => if p a then 2 ^ alarmBit a else 0).sum = 2 ^ k * bitSum (xs.map p) := by
  induction xs generalizing k with
  | nil => simp [bitSum]
  | cons x xs ih =>
    rw [List.map_cons, List.length_cons, List.range'_succ, List.cons.injEq] at h
    rw [List.map_cons, List.sum_cons, ih (k + 1) h.2, h.1, List.map_cons, bitSum]
    cases p x <;> simp <;> ring

/-- The alarm mask is the number whose bits are the alarms in their order (R206). -/
theorem alarmMask_eq (s : State) : alarmMask s = BitVec.ofNat 17 (bitSum (allAlarms.map (alarmPresent s))) := by
  rw [alarmMask, bitSum_of_consecutive (alarmPresent s) allAlarms 0 (by decide), pow_zero, one_mul]

theorem alarmMask_bit (s : State) (a : Alarm) : (alarmMask s).getLsbD (maskBit a) = alarmPresent s a := by
  rw [alarmMask_eq, BitVec.getLsbD_ofNat, bitSum_testBit]
  cases a <;> rfl

theorem blindWinch_iff (x : Option WinchPart) :
    blindWinch x = true ↔ ∃ w, x = some w ∧ w.state ≠ .released ∧ w.state ≠ .standby ∧ w.state ≠ .unfitted := by
  cases x <;> simp [blindWinch, and_assoc]

/-- PT's part of COUPLING_BLIND over the stations (R18). -/
theorem ptBlind_iff (s : State) :
    ptBlind s = true ↔
      ∃ (n : Station) (w : WinchPart), (peer s n).state = .lost ∧ ((peer s n).winchA = some w ∨ (peer s n).winchB = some w)
        ∧ w.state ≠ .released ∧ w.state ≠ .standby ∧ w.state ≠ .unfitted := by
  simp only [ptBlind, List.any_eq_true, Bool.and_eq_true, Bool.or_eq_true, beq_iff_eq, blindWinch_iff]
  constructor
  · rintro ⟨r, hr, hlost, hblind⟩
    obtain ⟨n, -, rfl⟩ := mem_pt.mp hr
    obtain ⟨w, hw, hstate⟩ | ⟨w, hw, hstate⟩ := hblind
    · exact ⟨n, w, hlost, .inl hw, hstate⟩
    · exact ⟨n, w, hlost, .inr hw, hstate⟩
  · rintro ⟨n, w, hlost, hw, hstate⟩
    have hvalid : validStation n = true := by
      by_contra h
      rw [peer_of_invalid (Bool.not_eq_true _ ▸ h)] at hlost
      exact absurd hlost nofun
    exact ⟨_, mem_pt.mpr ⟨n, hvalid, rfl⟩, hlost, hw.imp (⟨w, ·, hstate⟩) (⟨w, ·, hstate⟩)⟩

/-- Each alarm is present where its condition holds (R143). -/
theorem alarmPresent_iff (s : State) (a : Alarm) : alarmPresent s a = true ↔ alarmHolds s a := by
  have hwinch (p : Winch → Prop) : (∃ w : WinchId, p (winchRec s w)) ↔ p s.cu.a ∨ p s.cu.b :=
    ⟨fun ⟨w, h⟩ => by cases w; exacts [.inl h, .inr h], fun h => h.elim (⟨.a, ·⟩) (⟨.b, ·⟩)⟩
  cases a with
  | couplingBlind =>
    refine Iff.trans ?_ (or_congr (hwinch fun x => x.state = .blind).symm (ptBlind_iff s))
    simp only [alarmPresent, couplingBlind, Bool.or_eq_true, beq_iff_eq]
    tauto
  | overload =>
    simp only [alarmPresent, winchOverloaded, alarmHolds, hwinch fun x => x.state = .overload ∨ x.state = .rendering,
      Bool.or_eq_true, beq_iff_eq]
  | tankReserve => exact tankReserve_iff s
  | sensorFault =>
    simp only [alarmPresent, alarmHolds, sensorFault]
    cases s.ssq.sample <;> simp
  | engineLag => simp [alarmPresent, alarmHolds]
  | takeupFailed | parted => simp [alarmPresent, alarmHolds]
  | _ => exact Iff.rfl

/-! ### Queries and their replies (R189, R190, R209) -/

/-- The command that takes a QUERY of a subject. -/
def queryRow : Subject → Instr
  | .counters => .queryCounters
  | .alarms => .queryAlarms
  | .peer => .queryPeer
  | .leg => .queryLeg
  | .convoyFuel => .queryConvoyFuel
  | .commission => .queryCommission

theorem exec_query {s : State} {f : Frame} {x : Subject} (hadm : admits s f) (hf : f.cls = clsQuery)
    (hx : subjectOf (getU 1 1 f.payload) = some x) : exec (queryRow x) s = .next (ownQuery x f (taken s)) := by
  have hfits : ofSubject x f = true := by simp [ofSubject, hf, hx]
  cases x with
  | counters => exact exec_admitted (c := .queryCounters) hadm hfits
  | alarms => exact exec_admitted (c := .queryAlarms) hadm hfits
  | peer => exact exec_admitted (c := .queryPeer) hadm hfits
  | leg => exact exec_admitted (c := .queryLeg) hadm hfits
  | convoyFuel => exact exec_admitted (c := .queryConvoyFuel) hadm hfits
  | commission => exact exec_admitted (c := .queryCommission) hadm hfits

theorem pageCount_eq (x : Subject) : pageCount x = if x = .peer then 3 else 1 := by cases x <;> rfl

/-- The contents of a reply after its five leading bytes. -/
def replyContents (s : State) (x : Subject) (f : Frame) : List Byte :=
  if getU 1 3 f.payload < pageCount x then pageOf s x (getU 1 2 f.payload) (getU 1 3 f.payload) else []

theorem replyPayload_eq (s : State) (x : Subject) (f : Frame) :
    replyPayload s x f =
      putU 1 f.sender.toNat ++ putU 1 (getU 1 1 f.payload) ++ putU 1 (getU 1 2 f.payload) ++ putU 1 (getU 1 3 f.payload)
        ++ putU 1 (pageCount x) ++ replyContents s x f := rfl

/-- A reply's state: the queue extended, and the value counter stepped where a free value was used. -/
theorem replied_eq (x : Subject) (p : List Byte) (s : State) :
    usedFree x (queueReply p s) =
      { s with
        freeSeq := if x = .convoyFuel ∧ s.sc.fitted.engine = false then s.freeSeq + 1 else s.freeSeq
        tbi :=
          { s.tbi with
            replies := s.tbi.replies ++ [⟨⟨clsReply, s.sc.number, p⟩, s.tbi.nextSeq, s.now + 1000000⟩]
            nextSeq := s.tbi.nextSeq + 1 } } := by
  unfold usedFree
  by_cases h : x = .convoyFuel ∧ s.sc.fitted.engine = false
  · rw [if_pos h]
    exact (if_pos h).trans rfl
  · rw [if_neg h]
    exact (if_neg h).trans rfl

/-! #### The pages -/

theorem putPart_length_le {α : Type} {put : α → List Byte} {n : Nat} (h : ∀ e, (put e).length = n) (x : Option α) :
    (putPart put x).length ≤ n := by
  cases x with
  | none => exact Nat.zero_le n
  | some e => exact (h e).le

theorem putCore_length (c : PeerCore) : (putCore c).length = 7 := by simp [putCore]

theorem putComm_length (c : CommPart) : (putComm c).length = 3 := by simp [putComm]

theorem putAccount_length (a : Account) : (putAccount a).length = 24 := by simp [putAccount, putOptU, putOptS]

theorem putClosed_length (r : ClosedLeg) : (putClosed r).length = 23 := by simp [putClosed, putOptU, putOptS]

theorem putLastRefusal_length (r : Option LastRefusal) : (putLastRefusal r).length = 3 := by
  cases r <;> simp [putLastRefusal]

theorem putTripRecord_length (r : Option TripRecord) : (putTripRecord r).length = 3 := by
  cases r <;> simp [putTripRecord]

/-- No page is longer than 35 bytes (R209). -/
theorem pageOf_length (s : State) (x : Subject) (arg page : Nat) : (pageOf s x arg page).length ≤ 35 := by
  cases x with
  | counters => simp [pageOf, pageCounters, counterList, putLastRefusal_length]
  | alarms => simp [pageOf, pageAlarms, putTripRecord_length]
  | peer =>
    have hcore := putPart_length_le putCore_length (peerView s arg).core
    have hengine := putPart_length_le putEngine_length (peerView s arg).engine
    have hrudder := putPart_length_le putRudder_length (peerView s arg).rudder
    have ha := putPart_length_le putWinch_length (peerView s arg).winchA
    have hb := putPart_length_le putWinch_length (peerView s arg).winchB
    have hhelm := putPart_length_le putHelm_length (peerView s arg).helm
    have hcomm := putPart_length_le putComm_length (peerView s arg).commissioning
    have haccount := putPart_length_le putAccount_length (peerView s arg).account
    simp only [pageOf, pagePeer]
    split <;> simp <;> omega
  | leg => exact (putPart_length_le putClosed_length _).trans (by decide)
  | convoyFuel =>
    have hsum (v : Int) : (putSum v).length = 4 := by unfold putSum; split <;> simp
    simp only [pageOf, pageConvoyFuel]
    split <;> simp [hsum]
  | commission => simp [pageOf, pageCommission]

/-- A flag's share of a byte. -/
theorem flagShare (b : Bool) (n : Nat) : (if b then n else 0) = n * b.toNat := by cases b <;> simp

theorem pageAlarms_eq (s : State) :
    pageAlarms s =
      putU 4 (alarmMask s).toNat
        ++ putU 1
            ((if s.tau.latched.partedA then 1 else 0) + (if s.tau.latched.partedB then 2 else 0)
              + (if s.tau.latched.takeupFailedA then 4 else 0) + (if s.tau.latched.takeupFailedB then 8 else 0))
        ++ putU 1 (if s.tau.latch then 1 else 0)
        ++ (match s.tau.record with
            | none => [0, 255, 0]
            | some q =>
              putU 1 (causeCode q.cause) ++ putU 1 q.origin.toNat
                ++ putU 1 (match q.winch with | none => 0 | some .a => 1 | some .b => 2)) := by
  have hcode (w : Option WinchId) : optWinchCode w = (match w with | none => 0 | some .a => 1 | some .b => 2) := by
    rcases w with - | w
    · rfl
    · cases w <;> rfl
  simp only [pageAlarms, winchByte, flagShare, one_mul, putTripRecord, hcode]
  cases s.tau.record <;> rfl

/-- The age of a record in ms (R20). -/
theorem ageOf_eq (now : Nat) (r : PeerRecord) :
    ageOf now r =
      (match r.core with
       | some c => if r.state = .absent then 65535 else min 65535 ((now - c.lastStatus) / 1000)
       | none => 65535) := by
  unfold ageOf
  cases r.core <;> cases r.state <;> rfl

theorem sameLeg_eq (s : State) : sameLeg s = (accountSet s).filter fun a => decide (a.leg = s.fau.kept.leg) := by
  simp only [sameLeg, beq_eq_decide]

theorem consumedL_eq (k : Retained) : consumedL k = Int.tdiv k.accC 100000 := rfl

section
variable {s : State} {f : Frame} (hpage : getU 1 3 f.payload = 0)
include hpage

theorem replyContents_first (x : Subject) : replyContents s x f = pageOf s x (getU 1 2 f.payload) 0 := by
  rw [replyContents, hpage, if_pos (by cases x <;> decide)]

end

theorem replyContents_peer {s : State} {f : Frame} {n : Nat} (hpage : getU 1 3 f.payload = n) (hn : n < 3) :
    replyContents s .peer f = pagePeer s (getU 1 2 f.payload) n := by
  rw [replyContents, hpage]
  exact if_pos hn

theorem replied_onlyChanges (x : Subject) (p : List Byte) (s : State) :
    onlyChanges [.freeSeq, .tbi] s (usedFree x (queueReply p s)) := by
  rw [replied_eq]
  exact fun p hp => by cases p <;> simp_all [StatePart.same]

theorem replyContents_length (s : State) (x : Subject) (f : Frame) : (replyContents s x f).length ≤ 35 := by
  unfold replyContents
  split
  · exact pageOf_length _ _ _ _
  · exact Nat.zero_le _

/-- Settles O53: the alarms by their conditions, then each page of each subject. -/
theorem queries : Obligations.Queries := by
  refine ⟨fun s a => ⟨alarmPresent_iff s a, by rw [alarmMask_bit, alarmPresent_iff]⟩, ?_⟩
  intro s f x hadm hf hx row u arg page pages r bit
  have hrow : row = queryRow x := by cases x <;> rfl
  have hexec := exec_query hadm hf hx
  have hbit (b : Bool) (n : Nat) : bit b n = n * b.toNat := flagShare b n
  rw [hrow]
  refine ⟨fun h => ?_, fun h hfull => ?_, fun h hfree => ⟨usedFree x (queueReply (replyPayload u x f) u),
    replyContents u x f, ?_, ?_, ?_, replyContents_length _ _ _, fun hp => ?_, fun hx hp q hq => ?_, fun hx hp hq => ?_,
    fun hx hp => ?_, fun hx hp => ?_, fun hx hp => ?_, fun hx hp => ?_, fun hx hp => ?_, fun hx hp hfit => ?_,
    fun hx hp hfit => ?_, ?_, fun hx hp => ?_⟩⟩
  · rw [hexec]
    exact congrArg Host.Outcome.next (if_pos h)
  · rw [hexec]
    exact congrArg Host.Outcome.next ((if_neg (not_not.mpr h)).trans (if_pos hfull))
  · rw [hexec]
    exact congrArg Host.Outcome.next ((if_neg (not_not.mpr h)).trans (if_neg (Nat.not_le.mpr hfree)))
  · exact ((taken_onlyChanges s).mono (by decide)).trans (replied_onlyChanges _ _ _)
  · rw [replied_eq, replyPayload_eq, pageCount_eq]
    rfl
  · rw [replyContents, pageCount_eq]
    exact if_neg (Nat.not_lt.mpr hp)
  · rw [replyContents_first hp, hx]
    have hlast : u.tbi.lastRefusal = some q := hq
    simp only [pageOf, pageCounters, hlast, putLastRefusal, List.append_assoc]
  · rw [replyContents_first hp, hx]
    have hlast : u.tbi.lastRefusal = none := hq
    simp only [pageOf, pageCounters, hlast, putLastRefusal]
    rfl
  · rw [replyContents_first hp, hx]
    exact pageAlarms_eq s
  · subst hx
    rw [replyContents_peer hp (by decide)]
    simp only [pagePeer, ageOf_eq, hbit, one_mul]
    rfl
  · subst hx
    rw [replyContents_peer hp (by decide)]
    simp only [pagePeer, hbit, one_mul]
    rfl
  · subst hx
    rw [replyContents_peer hp (by decide)]
    simp only [pagePeer, hbit, one_mul]
    rfl
  · rw [replyContents_first hp, hx]
    rfl
  · rw [replyContents_first hp, hx]
    have hfit' : u.sc.fitted.engine = true := hfit
    simp only [pageOf, pageConvoyFuel, hfit', if_true, putSum, convoySum, consumedL_eq, sameLeg_eq]
    rfl
  · rw [replyContents_first hp, hx]
    have hfit' : u.sc.fitted.engine = false := hfit
    simp only [pageOf, pageConvoyFuel, hfit']
    rfl
  · rw [replied_eq]
    rfl
  · rw [replyContents_first hp, hx]
    simp only [pageOf, pageCommission, hbit, one_mul]
    rfl

end Sys2Proof.Machine
end
